-- ==== Sys2Proof/Word.lean ====
section
/-! DEFINITION. The two word types of the core: a byte of the image or of an 8-bit register, and the 16-bit program
counter (spec/10_state.md R10). Every register value is unsigned (spec/00_scope.md R9). -/
namespace Sys2Proof

/-- A byte: an element of the image, or the value of `A`, `X`, `Y`, `SP` or `P` (R10, R30). Bit 0 is the least
significant (spec/92_eei_decisions.md D25, DESIGN CHOICE, unsafe if a build numbers bits otherwise: log 15). -/
abbrev Byte := BitVec 8

/-- A 16-bit unsigned value: the program counter, and the recorded address of a fault (R14, R83). -/
abbrev Word := BitVec 16

end Sys2Proof
end

