-- ==== Sys2Proof/Config.lean ====
section
/-! DEFINITION. The parameters of spec/00_scope.md R8 that are no register width: the admitted image length, the entry
index, the stopping opcode, the immediate opcode, and the two parameters the spec leaves OPEN and no rule reads. -/
namespace Sys2Proof.Config

/-- The longest image a run may have, in bytes (spec/20_memory.md R34; the spec's own bound, D1; DESIGN CHOICE, safe: log 6). -/
def maxImageLength : Nat := 65535

/-- The index every run starts at (R38, R65, R104): the first byte of the image, whatever it holds. -/
def entryIndex : Word := 0

/-- `STACK_PAGE_BASE` (R39, D19): left OPEN by the spec; no rule reads it, and nothing in this model does. It has no
body, so nothing can be proved of its value (DESIGN CHOICE, safe: log 12). -/
opaque stackPageBase : Nat

/-- The two byte orders a machine may have. -/
inductive ByteOrder where
  | littleEndian
  | bigEndian
  deriving DecidableEq, Repr, Inhabited

/-- The byte order of multi-byte quantities (R35, D9): left OPEN by the spec and unobservable, since every access is one
byte wide. No rule reads it, and nothing in this model does (DESIGN CHOICE, safe: log 12). -/
opaque byteOrder : ByteOrder

end Sys2Proof.Config
end

