-- ==== Sys2Proof/Syntax.lean ====
section
/-! DEFINITION. The abstract syntax: one constructor for each of the 256 rows of spec/opcode_table.json, in the table's
order (spec/30_encoding.md R56, R57). `brk` is the row `BRK` (alias `HLT`), `ldaImm` the row `LDA_IMM`, and `unimp01` to
`unimpFF` the 254 rows `UNIMP_01` to `UNIMP_FF` (R78), each named after its opcode byte
(DESIGN CHOICE, safe: log 11). -/
namespace Sys2Proof

/-- The instructions of the core. Only `ldaImm` has an operand, the immediate byte (R50, R55). -/
inductive Instr where
  /-- `BRK`, opcode `0x00`: ends the run (spec/41_halt.md R75). -/
  | brk
  -- UNIMP $01 to UNIMP $A8: one-byte no-ops (spec/43_unimplemented_opcodes.md R77, R78)
  | unimp01
  | unimp02
  | unimp03
  | unimp04
  | unimp05
  | unimp06
  | unimp07
  | unimp08
  | unimp09
  | unimp0A
  | unimp0B
  | unimp0C
  | unimp0D
  | unimp0E
  | unimp0F
  | unimp10
  | unimp11
  | unimp12
  | unimp13
  | unimp14
  | unimp15
  | unimp16
  | unimp17
  | unimp18
  | unimp19
  | unimp1A
  | unimp1B
  | unimp1C
  | unimp1D
  | unimp1E
  | unimp1F
  | unimp20
  | unimp21
  | unimp22
  | unimp23
  | unimp24
  | unimp25
  | unimp26
  | unimp27
  | unimp28
  | unimp29
  | unimp2A
  | unimp2B
  | unimp2C
  | unimp2D
  | unimp2E
  | unimp2F
  | unimp30
  | unimp31
  | unimp32
  | unimp33
  | unimp34
  | unimp35
  | unimp36
  | unimp37
  | unimp38
  | unimp39
  | unimp3A
  | unimp3B
  | unimp3C
  | unimp3D
  | unimp3E
  | unimp3F
  | unimp40
  | unimp41
  | unimp42
  | unimp43
  | unimp44
  | unimp45
  | unimp46
  | unimp47
  | unimp48
  | unimp49
  | unimp4A
  | unimp4B
  | unimp4C
  | unimp4D
  | unimp4E
  | unimp4F
  | unimp50
  | unimp51
  | unimp52
  | unimp53
  | unimp54
  | unimp55
  | unimp56
  | unimp57
  | unimp58
  | unimp59
  | unimp5A
  | unimp5B
  | unimp5C
  | unimp5D
  | unimp5E
  | unimp5F
  | unimp60
  | unimp61
  | unimp62
  | unimp63
  | unimp64
  | unimp65
  | unimp66
  | unimp67
  | unimp68
  | unimp69
  | unimp6A
  | unimp6B
  | unimp6C
  | unimp6D
  | unimp6E
  | unimp6F
  | unimp70
  | unimp71
  | unimp72
  | unimp73
  | unimp74
  | unimp75
  | unimp76
  | unimp77
  | unimp78
  | unimp79
  | unimp7A
  | unimp7B
  | unimp7C
  | unimp7D
  | unimp7E
  | unimp7F
  | unimp80
  | unimp81
  | unimp82
  | unimp83
  | unimp84
  | unimp85
  | unimp86
  | unimp87
  | unimp88
  | unimp89
  | unimp8A
  | unimp8B
  | unimp8C
  | unimp8D
  | unimp8E
  | unimp8F
  | unimp90
  | unimp91
  | unimp92
  | unimp93
  | unimp94
  | unimp95
  | unimp96
  | unimp97
  | unimp98
  | unimp99
  | unimp9A
  | unimp9B
  | unimp9C
  | unimp9D
  | unimp9E
  | unimp9F
  | unimpA0
  | unimpA1
  | unimpA2
  | unimpA3
  | unimpA4
  | unimpA5
  | unimpA6
  | unimpA7
  | unimpA8
  /-- `LDA #imm8`, opcode `0xA9` and one operand byte (spec/42_load_accumulator_immediate.md R76). -/
  | ldaImm (imm8 : Byte)
  -- UNIMP $AA to UNIMP $FF: one-byte no-ops (spec/43_unimplemented_opcodes.md R77, R78)
  | unimpAA
  | unimpAB
  | unimpAC
  | unimpAD
  | unimpAE
  | unimpAF
  | unimpB0
  | unimpB1
  | unimpB2
  | unimpB3
  | unimpB4
  | unimpB5
  | unimpB6
  | unimpB7
  | unimpB8
  | unimpB9
  | unimpBA
  | unimpBB
  | unimpBC
  | unimpBD
  | unimpBE
  | unimpBF
  | unimpC0
  | unimpC1
  | unimpC2
  | unimpC3
  | unimpC4
  | unimpC5
  | unimpC6
  | unimpC7
  | unimpC8
  | unimpC9
  | unimpCA
  | unimpCB
  | unimpCC
  | unimpCD
  | unimpCE
  | unimpCF
  | unimpD0
  | unimpD1
  | unimpD2
  | unimpD3
  | unimpD4
  | unimpD5
  | unimpD6
  | unimpD7
  | unimpD8
  | unimpD9
  | unimpDA
  | unimpDB
  | unimpDC
  | unimpDD
  | unimpDE
  | unimpDF
  | unimpE0
  | unimpE1
  | unimpE2
  | unimpE3
  | unimpE4
  | unimpE5
  | unimpE6
  | unimpE7
  | unimpE8
  | unimpE9
  | unimpEA
  | unimpEB
  | unimpEC
  | unimpED
  | unimpEE
  | unimpEF
  | unimpF0
  | unimpF1
  | unimpF2
  | unimpF3
  | unimpF4
  | unimpF5
  | unimpF6
  | unimpF7
  | unimpF8
  | unimpF9
  | unimpFA
  | unimpFB
  | unimpFC
  | unimpFD
  | unimpFE
  | unimpFF
  deriving DecidableEq, Repr

end Sys2Proof
end

