-- ==== Sys2Proof/WellFormed.lean ====
section
/-! DEFINITION. What a well-formed instruction and a well-formed program are.

The syntax types carry every bound an instruction has: the one operand is a byte by its type, each opcode byte has a
constructor, and no encoding is illegal (spec/30_encoding.md R56, R58). So every instruction is well-formed. The check
the spec does make is on the whole program handed to a run: its length (spec/20_memory.md R34). -/
namespace Sys2Proof

/-- Every instruction of the syntax is well-formed: no opcode byte and no operand value is reserved or illegal (R58). -/
def Instr.WellFormed (_ : Instr) : Prop := True

/-- A program a run may be started with: an ordered, finite sequence of at most 65535 bytes, the empty one among them
(R30, R34). -/
def programWellFormed (program : List Byte) : Bool :=
  decide (program.length ≤ Config.maxImageLength)

end Sys2Proof
end

