-- ==== Sys2Proof/Decode.lean ====
section
/-! DEFINITION. The decoder: the opcode map of spec/30_encoding.md R56 as a table keyed by the opcode byte (R57), the
format of each entry, and `decode`, total on any bytes; then the encoder, written from the same formats (R51, R52). -/
namespace Sys2Proof

/-- Why `decode` reads no instruction from a list of bytes. No VALUE of a byte is ever refused (R58): only a byte that
is not there is. -/
inductive DecodeError where
  /-- There is no opcode byte (R81 when the list is what the step can read at `PC`). -/
  | noOpcode
  /-- The opcode byte is `0xA9` and its operand byte is not there (R82). -/
  | noOperand
  deriving DecidableEq, Repr

/-- One entry of the dispatch table (R57): the format of the instruction its opcode byte selects. -/
inductive OpcodeEntry where
  /-- Format F1: the opcode byte alone is the instruction (R51). -/
  | implied (i : Instr)
  /-- Format F2: opcode `0xA9`, followed by the immediate operand byte (R52). -/
  | immediate
  deriving DecidableEq, Repr

/-- Opcode bytes `0x00` to `0x0F`: row `0x` of the grid of R56. -/
def opcodeRow0 : Vector OpcodeEntry 16 :=
  #v[.implied .brk, .implied .unimp01, .implied .unimp02, .implied .unimp03,
     .implied .unimp04, .implied .unimp05, .implied .unimp06, .implied .unimp07,
     .implied .unimp08, .implied .unimp09, .implied .unimp0A, .implied .unimp0B,
     .implied .unimp0C, .implied .unimp0D, .implied .unimp0E, .implied .unimp0F]

/-- Opcode bytes `0x10` to `0x1F`: row `1x` of the grid of R56. -/
def opcodeRow1 : Vector OpcodeEntry 16 :=
  #v[.implied .unimp10, .implied .unimp11, .implied .unimp12, .implied .unimp13,
     .implied .unimp14, .implied .unimp15, .implied .unimp16, .implied .unimp17,
     .implied .unimp18, .implied .unimp19, .implied .unimp1A, .implied .unimp1B,
     .implied .unimp1C, .implied .unimp1D, .implied .unimp1E, .implied .unimp1F]

/-- Opcode bytes `0x20` to `0x2F`: row `2x` of the grid of R56. -/
def opcodeRow2 : Vector OpcodeEntry 16 :=
  #v[.implied .unimp20, .implied .unimp21, .implied .unimp22, .implied .unimp23,
     .implied .unimp24, .implied .unimp25, .implied .unimp26, .implied .unimp27,
     .implied .unimp28, .implied .unimp29, .implied .unimp2A, .implied .unimp2B,
     .implied .unimp2C, .implied .unimp2D, .implied .unimp2E, .implied .unimp2F]

/-- Opcode bytes `0x30` to `0x3F`: row `3x` of the grid of R56. -/
def opcodeRow3 : Vector OpcodeEntry 16 :=
  #v[.implied .unimp30, .implied .unimp31, .implied .unimp32, .implied .unimp33,
     .implied .unimp34, .implied .unimp35, .implied .unimp36, .implied .unimp37,
     .implied .unimp38, .implied .unimp39, .implied .unimp3A, .implied .unimp3B,
     .implied .unimp3C, .implied .unimp3D, .implied .unimp3E, .implied .unimp3F]

/-- Opcode bytes `0x40` to `0x4F`: row `4x` of the grid of R56. -/
def opcodeRow4 : Vector OpcodeEntry 16 :=
  #v[.implied .unimp40, .implied .unimp41, .implied .unimp42, .implied .unimp43,
     .implied .unimp44, .implied .unimp45, .implied .unimp46, .implied .unimp47,
     .implied .unimp48, .implied .unimp49, .implied .unimp4A, .implied .unimp4B,
     .implied .unimp4C, .implied .unimp4D, .implied .unimp4E, .implied .unimp4F]

/-- Opcode bytes `0x50` to `0x5F`: row `5x` of the grid of R56. -/
def opcodeRow5 : Vector OpcodeEntry 16 :=
  #v[.implied .unimp50, .implied .unimp51, .implied .unimp52, .implied .unimp53,
     .implied .unimp54, .implied .unimp55, .implied .unimp56, .implied .unimp57,
     .implied .unimp58, .implied .unimp59, .implied .unimp5A, .implied .unimp5B,
     .implied .unimp5C, .implied .unimp5D, .implied .unimp5E, .implied .unimp5F]

/-- Opcode bytes `0x60` to `0x6F`: row `6x` of the grid of R56. -/
def opcodeRow6 : Vector OpcodeEntry 16 :=
  #v[.implied .unimp60, .implied .unimp61, .implied .unimp62, .implied .unimp63,
     .implied .unimp64, .implied .unimp65, .implied .unimp66, .implied .unimp67,
     .implied .unimp68, .implied .unimp69, .implied .unimp6A, .implied .unimp6B,
     .implied .unimp6C, .implied .unimp6D, .implied .unimp6E, .implied .unimp6F]

/-- Opcode bytes `0x70` to `0x7F`: row `7x` of the grid of R56. -/
def opcodeRow7 : Vector OpcodeEntry 16 :=
  #v[.implied .unimp70, .implied .unimp71, .implied .unimp72, .implied .unimp73,
     .implied .unimp74, .implied .unimp75, .implied .unimp76, .implied .unimp77,
     .implied .unimp78, .implied .unimp79, .implied .unimp7A, .implied .unimp7B,
     .implied .unimp7C, .implied .unimp7D, .implied .unimp7E, .implied .unimp7F]

/-- Opcode bytes `0x80` to `0x8F`: row `8x` of the grid of R56. -/
def opcodeRow8 : Vector OpcodeEntry 16 :=
  #v[.implied .unimp80, .implied .unimp81, .implied .unimp82, .implied .unimp83,
     .implied .unimp84, .implied .unimp85, .implied .unimp86, .implied .unimp87,
     .implied .unimp88, .implied .unimp89, .implied .unimp8A, .implied .unimp8B,
     .implied .unimp8C, .implied .unimp8D, .implied .unimp8E, .implied .unimp8F]

/-- Opcode bytes `0x90` to `0x9F`: row `9x` of the grid of R56. -/
def opcodeRow9 : Vector OpcodeEntry 16 :=
  #v[.implied .unimp90, .implied .unimp91, .implied .unimp92, .implied .unimp93,
     .implied .unimp94, .implied .unimp95, .implied .unimp96, .implied .unimp97,
     .implied .unimp98, .implied .unimp99, .implied .unimp9A, .implied .unimp9B,
     .implied .unimp9C, .implied .unimp9D, .implied .unimp9E, .implied .unimp9F]

/-- Opcode bytes `0xA0` to `0xAF`: row `Ax` of the grid of R56. -/
def opcodeRowA : Vector OpcodeEntry 16 :=
  #v[.implied .unimpA0, .implied .unimpA1, .implied .unimpA2, .implied .unimpA3,
     .implied .unimpA4, .implied .unimpA5, .implied .unimpA6, .implied .unimpA7,
     .implied .unimpA8, .immediate, .implied .unimpAA, .implied .unimpAB,
     .implied .unimpAC, .implied .unimpAD, .implied .unimpAE, .implied .unimpAF]

/-- Opcode bytes `0xB0` to `0xBF`: row `Bx` of the grid of R56. -/
def opcodeRowB : Vector OpcodeEntry 16 :=
  #v[.implied .unimpB0, .implied .unimpB1, .implied .unimpB2, .implied .unimpB3,
     .implied .unimpB4, .implied .unimpB5, .implied .unimpB6, .implied .unimpB7,
     .implied .unimpB8, .implied .unimpB9, .implied .unimpBA, .implied .unimpBB,
     .implied .unimpBC, .implied .unimpBD, .implied .unimpBE, .implied .unimpBF]

/-- Opcode bytes `0xC0` to `0xCF`: row `Cx` of the grid of R56. -/
def opcodeRowC : Vector OpcodeEntry 16 :=
  #v[.implied .unimpC0, .implied .unimpC1, .implied .unimpC2, .implied .unimpC3,
     .implied .unimpC4, .implied .unimpC5, .implied .unimpC6, .implied .unimpC7,
     .implied .unimpC8, .implied .unimpC9, .implied .unimpCA, .implied .unimpCB,
     .implied .unimpCC, .implied .unimpCD, .implied .unimpCE, .implied .unimpCF]

/-- Opcode bytes `0xD0` to `0xDF`: row `Dx` of the grid of R56. -/
def opcodeRowD : Vector OpcodeEntry 16 :=
  #v[.implied .unimpD0, .implied .unimpD1, .implied .unimpD2, .implied .unimpD3,
     .implied .unimpD4, .implied .unimpD5, .implied .unimpD6, .implied .unimpD7,
     .implied .unimpD8, .implied .unimpD9, .implied .unimpDA, .implied .unimpDB,
     .implied .unimpDC, .implied .unimpDD, .implied .unimpDE, .implied .unimpDF]

/-- Opcode bytes `0xE0` to `0xEF`: row `Ex` of the grid of R56. -/
def opcodeRowE : Vector OpcodeEntry 16 :=
  #v[.implied .unimpE0, .implied .unimpE1, .implied .unimpE2, .implied .unimpE3,
     .implied .unimpE4, .implied .unimpE5, .implied .unimpE6, .implied .unimpE7,
     .implied .unimpE8, .implied .unimpE9, .implied .unimpEA, .implied .unimpEB,
     .implied .unimpEC, .implied .unimpED, .implied .unimpEE, .implied .unimpEF]

/-- Opcode bytes `0xF0` to `0xFF`: row `Fx` of the grid of R56. -/
def opcodeRowF : Vector OpcodeEntry 16 :=
  #v[.implied .unimpF0, .implied .unimpF1, .implied .unimpF2, .implied .unimpF3,
     .implied .unimpF4, .implied .unimpF5, .implied .unimpF6, .implied .unimpF7,
     .implied .unimpF8, .implied .unimpF9, .implied .unimpFA, .implied .unimpFB,
     .implied .unimpFC, .implied .unimpFD, .implied .unimpFE, .implied .unimpFF]

/-- The opcode map (R56), the spec's own grid: the entry of opcode byte `b` in row `b / 16`, column `b % 16`. -/
def opcodeMap : Vector (Vector OpcodeEntry 16) 16 :=
  #v[opcodeRow0, opcodeRow1, opcodeRow2, opcodeRow3, opcodeRow4, opcodeRow5, opcodeRow6, opcodeRow7,
     opcodeRow8, opcodeRow9, opcodeRowA, opcodeRowB, opcodeRowC, opcodeRowD, opcodeRowE, opcodeRowF]

/-- The entry an opcode byte selects: all 8 bits are matched and none is a field (R56). The map has an entry for every
byte, so dispatch never fails (R57). -/
def opcodeEntry (op : Byte) : OpcodeEntry :=
  (opcodeMap[op.toNat / 16]'(by have := op.isLt; omega))[op.toNat % 16]'(by omega)

/-- Read one instruction off the front of a list of bytes: the instruction and the bytes after it. The length depends on
the opcode byte alone, and the byte after a one-byte instruction is not looked at (R53). -/
def decode : List Byte → Except DecodeError (Instr × List Byte)
  | [] => .error .noOpcode
  | op :: rest =>
    match opcodeEntry op with
    | .implied i => .ok (i, rest)
    | .immediate =>
      match rest with
      | [] => .error .noOperand
      | imm8 :: rest' => .ok (.ldaImm imm8, rest')

/-- The number of bytes of the instruction that an opcode byte begins: 2 for `0xA9`, 1 for every other byte (R53). -/
def instrLength (op : Byte) : Nat :=
  if op = 0xA9 then 2 else 1

/-- The opcode byte of an instruction (R56, R78; the "match" column of spec/opcode_table.json). -/
def Instr.opcode : Instr → Byte
  | .brk => 0x00
  | .unimp01 => 0x01
  | .unimp02 => 0x02
  | .unimp03 => 0x03
  | .unimp04 => 0x04
  | .unimp05 => 0x05
  | .unimp06 => 0x06
  | .unimp07 => 0x07
  | .unimp08 => 0x08
  | .unimp09 => 0x09
  | .unimp0A => 0x0A
  | .unimp0B => 0x0B
  | .unimp0C => 0x0C
  | .unimp0D => 0x0D
  | .unimp0E => 0x0E
  | .unimp0F => 0x0F
  | .unimp10 => 0x10
  | .unimp11 => 0x11
  | .unimp12 => 0x12
  | .unimp13 => 0x13
  | .unimp14 => 0x14
  | .unimp15 => 0x15
  | .unimp16 => 0x16
  | .unimp17 => 0x17
  | .unimp18 => 0x18
  | .unimp19 => 0x19
  | .unimp1A => 0x1A
  | .unimp1B => 0x1B
  | .unimp1C => 0x1C
  | .unimp1D => 0x1D
  | .unimp1E => 0x1E
  | .unimp1F => 0x1F
  | .unimp20 => 0x20
  | .unimp21 => 0x21
  | .unimp22 => 0x22
  | .unimp23 => 0x23
  | .unimp24 => 0x24
  | .unimp25 => 0x25
  | .unimp26 => 0x26
  | .unimp27 => 0x27
  | .unimp28 => 0x28
  | .unimp29 => 0x29
  | .unimp2A => 0x2A
  | .unimp2B => 0x2B
  | .unimp2C => 0x2C
  | .unimp2D => 0x2D
  | .unimp2E => 0x2E
  | .unimp2F => 0x2F
  | .unimp30 => 0x30
  | .unimp31 => 0x31
  | .unimp32 => 0x32
  | .unimp33 => 0x33
  | .unimp34 => 0x34
  | .unimp35 => 0x35
  | .unimp36 => 0x36
  | .unimp37 => 0x37
  | .unimp38 => 0x38
  | .unimp39 => 0x39
  | .unimp3A => 0x3A
  | .unimp3B => 0x3B
  | .unimp3C => 0x3C
  | .unimp3D => 0x3D
  | .unimp3E => 0x3E
  | .unimp3F => 0x3F
  | .unimp40 => 0x40
  | .unimp41 => 0x41
  | .unimp42 => 0x42
  | .unimp43 => 0x43
  | .unimp44 => 0x44
  | .unimp45 => 0x45
  | .unimp46 => 0x46
  | .unimp47 => 0x47
  | .unimp48 => 0x48
  | .unimp49 => 0x49
  | .unimp4A => 0x4A
  | .unimp4B => 0x4B
  | .unimp4C => 0x4C
  | .unimp4D => 0x4D
  | .unimp4E => 0x4E
  | .unimp4F => 0x4F
  | .unimp50 => 0x50
  | .unimp51 => 0x51
  | .unimp52 => 0x52
  | .unimp53 => 0x53
  | .unimp54 => 0x54
  | .unimp55 => 0x55
  | .unimp56 => 0x56
  | .unimp57 => 0x57
  | .unimp58 => 0x58
  | .unimp59 => 0x59
  | .unimp5A => 0x5A
  | .unimp5B => 0x5B
  | .unimp5C => 0x5C
  | .unimp5D => 0x5D
  | .unimp5E => 0x5E
  | .unimp5F => 0x5F
  | .unimp60 => 0x60
  | .unimp61 => 0x61
  | .unimp62 => 0x62
  | .unimp63 => 0x63
  | .unimp64 => 0x64
  | .unimp65 => 0x65
  | .unimp66 => 0x66
  | .unimp67 => 0x67
  | .unimp68 => 0x68
  | .unimp69 => 0x69
  | .unimp6A => 0x6A
  | .unimp6B => 0x6B
  | .unimp6C => 0x6C
  | .unimp6D => 0x6D
  | .unimp6E => 0x6E
  | .unimp6F => 0x6F
  | .unimp70 => 0x70
  | .unimp71 => 0x71
  | .unimp72 => 0x72
  | .unimp73 => 0x73
  | .unimp74 => 0x74
  | .unimp75 => 0x75
  | .unimp76 => 0x76
  | .unimp77 => 0x77
  | .unimp78 => 0x78
  | .unimp79 => 0x79
  | .unimp7A => 0x7A
  | .unimp7B => 0x7B
  | .unimp7C => 0x7C
  | .unimp7D => 0x7D
  | .unimp7E => 0x7E
  | .unimp7F => 0x7F
  | .unimp80 => 0x80
  | .unimp81 => 0x81
  | .unimp82 => 0x82
  | .unimp83 => 0x83
  | .unimp84 => 0x84
  | .unimp85 => 0x85
  | .unimp86 => 0x86
  | .unimp87 => 0x87
  | .unimp88 => 0x88
  | .unimp89 => 0x89
  | .unimp8A => 0x8A
  | .unimp8B => 0x8B
  | .unimp8C => 0x8C
  | .unimp8D => 0x8D
  | .unimp8E => 0x8E
  | .unimp8F => 0x8F
  | .unimp90 => 0x90
  | .unimp91 => 0x91
  | .unimp92 => 0x92
  | .unimp93 => 0x93
  | .unimp94 => 0x94
  | .unimp95 => 0x95
  | .unimp96 => 0x96
  | .unimp97 => 0x97
  | .unimp98 => 0x98
  | .unimp99 => 0x99
  | .unimp9A => 0x9A
  | .unimp9B => 0x9B
  | .unimp9C => 0x9C
  | .unimp9D => 0x9D
  | .unimp9E => 0x9E
  | .unimp9F => 0x9F
  | .unimpA0 => 0xA0
  | .unimpA1 => 0xA1
  | .unimpA2 => 0xA2
  | .unimpA3 => 0xA3
  | .unimpA4 => 0xA4
  | .unimpA5 => 0xA5
  | .unimpA6 => 0xA6
  | .unimpA7 => 0xA7
  | .unimpA8 => 0xA8
  | .ldaImm _ => 0xA9
  | .unimpAA => 0xAA
  | .unimpAB => 0xAB
  | .unimpAC => 0xAC
  | .unimpAD => 0xAD
  | .unimpAE => 0xAE
  | .unimpAF => 0xAF
  | .unimpB0 => 0xB0
  | .unimpB1 => 0xB1
  | .unimpB2 => 0xB2
  | .unimpB3 => 0xB3
  | .unimpB4 => 0xB4
  | .unimpB5 => 0xB5
  | .unimpB6 => 0xB6
  | .unimpB7 => 0xB7
  | .unimpB8 => 0xB8
  | .unimpB9 => 0xB9
  | .unimpBA => 0xBA
  | .unimpBB => 0xBB
  | .unimpBC => 0xBC
  | .unimpBD => 0xBD
  | .unimpBE => 0xBE
  | .unimpBF => 0xBF
  | .unimpC0 => 0xC0
  | .unimpC1 => 0xC1
  | .unimpC2 => 0xC2
  | .unimpC3 => 0xC3
  | .unimpC4 => 0xC4
  | .unimpC5 => 0xC5
  | .unimpC6 => 0xC6
  | .unimpC7 => 0xC7
  | .unimpC8 => 0xC8
  | .unimpC9 => 0xC9
  | .unimpCA => 0xCA
  | .unimpCB => 0xCB
  | .unimpCC => 0xCC
  | .unimpCD => 0xCD
  | .unimpCE => 0xCE
  | .unimpCF => 0xCF
  | .unimpD0 => 0xD0
  | .unimpD1 => 0xD1
  | .unimpD2 => 0xD2
  | .unimpD3 => 0xD3
  | .unimpD4 => 0xD4
  | .unimpD5 => 0xD5
  | .unimpD6 => 0xD6
  | .unimpD7 => 0xD7
  | .unimpD8 => 0xD8
  | .unimpD9 => 0xD9
  | .unimpDA => 0xDA
  | .unimpDB => 0xDB
  | .unimpDC => 0xDC
  | .unimpDD => 0xDD
  | .unimpDE => 0xDE
  | .unimpDF => 0xDF
  | .unimpE0 => 0xE0
  | .unimpE1 => 0xE1
  | .unimpE2 => 0xE2
  | .unimpE3 => 0xE3
  | .unimpE4 => 0xE4
  | .unimpE5 => 0xE5
  | .unimpE6 => 0xE6
  | .unimpE7 => 0xE7
  | .unimpE8 => 0xE8
  | .unimpE9 => 0xE9
  | .unimpEA => 0xEA
  | .unimpEB => 0xEB
  | .unimpEC => 0xEC
  | .unimpED => 0xED
  | .unimpEE => 0xEE
  | .unimpEF => 0xEF
  | .unimpF0 => 0xF0
  | .unimpF1 => 0xF1
  | .unimpF2 => 0xF2
  | .unimpF3 => 0xF3
  | .unimpF4 => 0xF4
  | .unimpF5 => 0xF5
  | .unimpF6 => 0xF6
  | .unimpF7 => 0xF7
  | .unimpF8 => 0xF8
  | .unimpF9 => 0xF9
  | .unimpFA => 0xFA
  | .unimpFB => 0xFB
  | .unimpFC => 0xFC
  | .unimpFD => 0xFD
  | .unimpFE => 0xFE
  | .unimpFF => 0xFF

/-- The operand bytes of an instruction (R50): the immediate of `ldaImm`, none for any other. -/
def Instr.operandBytes : Instr → List Byte
  | .ldaImm imm8 => [imm8]
  | .brk => []
  | .unimp01 => []
  | .unimp02 => []
  | .unimp03 => []
  | .unimp04 => []
  | .unimp05 => []
  | .unimp06 => []
  | .unimp07 => []
  | .unimp08 => []
  | .unimp09 => []
  | .unimp0A => []
  | .unimp0B => []
  | .unimp0C => []
  | .unimp0D => []
  | .unimp0E => []
  | .unimp0F => []
  | .unimp10 => []
  | .unimp11 => []
  | .unimp12 => []
  | .unimp13 => []
  | .unimp14 => []
  | .unimp15 => []
  | .unimp16 => []
  | .unimp17 => []
  | .unimp18 => []
  | .unimp19 => []
  | .unimp1A => []
  | .unimp1B => []
  | .unimp1C => []
  | .unimp1D => []
  | .unimp1E => []
  | .unimp1F => []
  | .unimp20 => []
  | .unimp21 => []
  | .unimp22 => []
  | .unimp23 => []
  | .unimp24 => []
  | .unimp25 => []
  | .unimp26 => []
  | .unimp27 => []
  | .unimp28 => []
  | .unimp29 => []
  | .unimp2A => []
  | .unimp2B => []
  | .unimp2C => []
  | .unimp2D => []
  | .unimp2E => []
  | .unimp2F => []
  | .unimp30 => []
  | .unimp31 => []
  | .unimp32 => []
  | .unimp33 => []
  | .unimp34 => []
  | .unimp35 => []
  | .unimp36 => []
  | .unimp37 => []
  | .unimp38 => []
  | .unimp39 => []
  | .unimp3A => []
  | .unimp3B => []
  | .unimp3C => []
  | .unimp3D => []
  | .unimp3E => []
  | .unimp3F => []
  | .unimp40 => []
  | .unimp41 => []
  | .unimp42 => []
  | .unimp43 => []
  | .unimp44 => []
  | .unimp45 => []
  | .unimp46 => []
  | .unimp47 => []
  | .unimp48 => []
  | .unimp49 => []
  | .unimp4A => []
  | .unimp4B => []
  | .unimp4C => []
  | .unimp4D => []
  | .unimp4E => []
  | .unimp4F => []
  | .unimp50 => []
  | .unimp51 => []
  | .unimp52 => []
  | .unimp53 => []
  | .unimp54 => []
  | .unimp55 => []
  | .unimp56 => []
  | .unimp57 => []
  | .unimp58 => []
  | .unimp59 => []
  | .unimp5A => []
  | .unimp5B => []
  | .unimp5C => []
  | .unimp5D => []
  | .unimp5E => []
  | .unimp5F => []
  | .unimp60 => []
  | .unimp61 => []
  | .unimp62 => []
  | .unimp63 => []
  | .unimp64 => []
  | .unimp65 => []
  | .unimp66 => []
  | .unimp67 => []
  | .unimp68 => []
  | .unimp69 => []
  | .unimp6A => []
  | .unimp6B => []
  | .unimp6C => []
  | .unimp6D => []
  | .unimp6E => []
  | .unimp6F => []
  | .unimp70 => []
  | .unimp71 => []
  | .unimp72 => []
  | .unimp73 => []
  | .unimp74 => []
  | .unimp75 => []
  | .unimp76 => []
  | .unimp77 => []
  | .unimp78 => []
  | .unimp79 => []
  | .unimp7A => []
  | .unimp7B => []
  | .unimp7C => []
  | .unimp7D => []
  | .unimp7E => []
  | .unimp7F => []
  | .unimp80 => []
  | .unimp81 => []
  | .unimp82 => []
  | .unimp83 => []
  | .unimp84 => []
  | .unimp85 => []
  | .unimp86 => []
  | .unimp87 => []
  | .unimp88 => []
  | .unimp89 => []
  | .unimp8A => []
  | .unimp8B => []
  | .unimp8C => []
  | .unimp8D => []
  | .unimp8E => []
  | .unimp8F => []
  | .unimp90 => []
  | .unimp91 => []
  | .unimp92 => []
  | .unimp93 => []
  | .unimp94 => []
  | .unimp95 => []
  | .unimp96 => []
  | .unimp97 => []
  | .unimp98 => []
  | .unimp99 => []
  | .unimp9A => []
  | .unimp9B => []
  | .unimp9C => []
  | .unimp9D => []
  | .unimp9E => []
  | .unimp9F => []
  | .unimpA0 => []
  | .unimpA1 => []
  | .unimpA2 => []
  | .unimpA3 => []
  | .unimpA4 => []
  | .unimpA5 => []
  | .unimpA6 => []
  | .unimpA7 => []
  | .unimpA8 => []
  | .unimpAA => []
  | .unimpAB => []
  | .unimpAC => []
  | .unimpAD => []
  | .unimpAE => []
  | .unimpAF => []
  | .unimpB0 => []
  | .unimpB1 => []
  | .unimpB2 => []
  | .unimpB3 => []
  | .unimpB4 => []
  | .unimpB5 => []
  | .unimpB6 => []
  | .unimpB7 => []
  | .unimpB8 => []
  | .unimpB9 => []
  | .unimpBA => []
  | .unimpBB => []
  | .unimpBC => []
  | .unimpBD => []
  | .unimpBE => []
  | .unimpBF => []
  | .unimpC0 => []
  | .unimpC1 => []
  | .unimpC2 => []
  | .unimpC3 => []
  | .unimpC4 => []
  | .unimpC5 => []
  | .unimpC6 => []
  | .unimpC7 => []
  | .unimpC8 => []
  | .unimpC9 => []
  | .unimpCA => []
  | .unimpCB => []
  | .unimpCC => []
  | .unimpCD => []
  | .unimpCE => []
  | .unimpCF => []
  | .unimpD0 => []
  | .unimpD1 => []
  | .unimpD2 => []
  | .unimpD3 => []
  | .unimpD4 => []
  | .unimpD5 => []
  | .unimpD6 => []
  | .unimpD7 => []
  | .unimpD8 => []
  | .unimpD9 => []
  | .unimpDA => []
  | .unimpDB => []
  | .unimpDC => []
  | .unimpDD => []
  | .unimpDE => []
  | .unimpDF => []
  | .unimpE0 => []
  | .unimpE1 => []
  | .unimpE2 => []
  | .unimpE3 => []
  | .unimpE4 => []
  | .unimpE5 => []
  | .unimpE6 => []
  | .unimpE7 => []
  | .unimpE8 => []
  | .unimpE9 => []
  | .unimpEA => []
  | .unimpEB => []
  | .unimpEC => []
  | .unimpED => []
  | .unimpEE => []
  | .unimpEF => []
  | .unimpF0 => []
  | .unimpF1 => []
  | .unimpF2 => []
  | .unimpF3 => []
  | .unimpF4 => []
  | .unimpF5 => []
  | .unimpF6 => []
  | .unimpF7 => []
  | .unimpF8 => []
  | .unimpF9 => []
  | .unimpFA => []
  | .unimpFB => []
  | .unimpFC => []
  | .unimpFD => []
  | .unimpFE => []
  | .unimpFF => []

/-- The bytes of an instruction, opcode first at the lower index (R50, R51, R52). -/
def encode (i : Instr) : List Byte :=
  i.opcode :: i.operandBytes

/-- Bits `8*k + 7` to `8*k` of `w`, as a byte. -/
def byteOfNat (w k : Nat) : Byte :=
  BitVec.ofNat 8 (w / 256 ^ k)

/-- The bytes of an instruction whose first `nbits` bits are `w`, as spec/opcode_table.json numbers them: byte `k` is
bits `8*k + 7` to `8*k`, every bit from `nbits` on is 0, and there are as many bytes as the longest instruction has
(two, R50). -/
def tableBytes (nbits w : Nat) : List Byte :=
  [byteOfNat (w % 2 ^ nbits) 0, byteOfNat (w % 2 ^ nbits) 1]

/-- The instruction the decoder reads from a word of spec/opcode_table.json. -/
def decodeTableWord (nbits w : Nat) : Option Instr :=
  match decode (tableBytes nbits w) with
  | .ok (i, _) => some i
  | .error _ => none

end Sys2Proof
end

