-- ==== Sys2Proof/Machine/State.lean ====
section
/-! DEFINITION. The state of the machine as plain data, the reasons a step can stop, and the state at power-on.

The spec's own state: the six registers (spec/10_state.md R10), the run status (R23) with the record of a fault
(spec/60_exceptions.md R83), and the image binding (R24). The model's own: the calls the host is still to make
(DESIGN CHOICE, unsafe only for a claim on the empty queue: log 2). -/
namespace Sys2Proof.Machine

/-- The program image as memory: its bytes as (index, byte) pairs. Canonical form (`Memory.wf`, Machine/Ops.lean): the
indices are 0, 1, 2, ... in that order, so a byte sequence of length `L` has one form, with `L` cells (R30, R38). An index
that is not listed reads as nothing: it is out of bounds (R31; DESIGN CHOICE, safe: log 19). -/
structure Memory where
  cells : List Host.Cell
  deriving DecidableEq, Repr

/-- The `kind` of a read of the image: the two ways `OutOfBounds` arises (R80, R83). -/
inductive AccessKind where
  /-- The fetch of an opcode byte (R81). -/
  | opcode
  /-- The read of the operand byte of opcode `0xA9` (R82). -/
  | operand
  deriving DecidableEq, Repr

/-- The record of an `OutOfBounds` (R83): no register of the core holds it. -/
structure OutOfBounds where
  kind : AccessKind
  /-- The index of the failed read. -/
  addr : Word
  deriving DecidableEq, Repr

/-- The run status (R23): not a register of the core and no part of `P`. -/
inductive RunStatus where
  /-- Powered on or reset, no run started since. -/
  | idle
  /-- A run is in progress; the core steps. -/
  | running
  /-- The last run ended at opcode `0x00`, the only normal termination. -/
  | halted
  /-- The last run ended in `OutOfBounds`; with its record (R83). -/
  | fault (record : OutOfBounds)
  deriving DecidableEq, Repr

/-- A call the host makes between runs (spec/70_reset_and_hazards.md R106). A register read is no call here: it has no
side effect (R25), so it is the function `observe` of Machine/Ops.lean. -/
inductive HostCall where
  /-- `reset()` (R101). -/
  | reset
  /-- `interpret(program)` (R65). -/
  | interpret (program : List Byte)
  deriving DecidableEq, Repr

/-- The whole state. -/
structure State where
  /-- `A`, the accumulator (R11). -/
  a : Byte
  /-- `X`, an index register (R12). -/
  x : Byte
  /-- `Y`, an index register (R12). -/
  y : Byte
  /-- `SP`, the stack pointer (R13). -/
  sp : Byte
  /-- `P`, the status register: eight stored bits C0 Z1 I2 D3 B4 U5 V6 N7 (R15, R16, R17). -/
  p : Byte
  /-- `PC`, the index of the next byte to fetch (R14). -/
  pc : Word
  /-- The run status, with the record of a fault (R23, R83). -/
  status : RunStatus
  /-- The image binding: none, or the image of the run (R24, R26). -/
  image : Option Memory
  /-- THE MODEL'S OWN: the calls the host is still to make, the next one first (DESIGN CHOICE, unsafe only for a claim on
  the empty queue: log 2). -/
  calls : List HostCall
  deriving DecidableEq, Repr

/-- Why the machine stops with a fault. -/
inductive Fault where
  /-- The last run ended in `OutOfBounds(kind, addr)` and no move is defined from status Fault (R84, R86). Raised by
  `step` in every state whose status is Fault, and by nothing else. Safe: nothing follows a fault. -/
  | outOfBounds (kind : AccessKind) (addr : Word)
  deriving DecidableEq, Repr

/-- Why a step is refused. -/
inductive Refusal where
  /-- An instruction with no meaning yet, by its mnemonic in spec/opcode_table.json. No arm of `exec` raises it: every
  instruction has its meaning. Safe. -/
  | notModelled (mnemonic : String)
  /-- The host called `interpret` with an image of more than 65535 bytes, which the spec refuses (R34). Raised by
  `hostCall` (Machine/Ops.lean). Safe: such a run is given no meaning. -/
  | imageTooLong
  deriving DecidableEq, Repr

/-- The machine right after power-on (R26, R100): every register at its stated value, status Idle, no image bound
(that power-on leaves what `reset()` leaves is the spec's reading D16: DEDUCED, unsafe if it is wrong: log 14). The host has no call queued: the model's own field (DESIGN CHOICE, unsafe only for a claim on the empty queue: log 2). -/
def State.reset : State where
  a := 0x00
  x := 0x00
  y := 0x00
  sp := 0x00
  p := 0x24
  pc := 0x0000
  status := .idle
  image := none
  calls := []

end Sys2Proof.Machine
end

