-- ==== Sys2Proof/Machine/Ops.lean ====
section
/-! DEFINITION. The named operations over memory and registers: reading the image, advancing `PC`, ending a run, taking the
one exception, the shared meaning of the unimplemented opcodes, and the host's moves between runs. -/
namespace Sys2Proof.Machine

/-! ### The image (spec/20_memory.md) -/

/-- Look an index up in a list of cells. -/
def lookupCell : List Host.Cell → Nat → Option Byte
  | [], _ => none
  | (k, v) :: rest, addr => if addr = k then some v else lookupCell rest addr

/-- `MemRead(addr, 1)` on an image: the byte, or nothing where the step raises `OutOfBounds` (R31). A read has no side
effect (R37), and there is no write (R32). -/
def Memory.read (m : Memory) (addr : Nat) : Option Byte :=
  lookupCell m.cells addr

/-- The length `L` of an image (R8, R30). -/
def Memory.length (m : Memory) : Nat :=
  m.cells.length

/-- The cells of a byte sequence whose first byte has index `k`. -/
def cellsFrom : Nat → List Byte → List Host.Cell
  | _, [] => []
  | k, b :: rest => (k, b) :: cellsFrom (k + 1) rest

/-- The image of a byte sequence: byte `k` of the sequence at index `k` (R30). -/
def Memory.ofBytes (program : List Byte) : Memory :=
  { cells := cellsFrom 0 program }

/-- The byte sequence of an image. -/
def Memory.toBytes (m : Memory) : List Byte :=
  m.cells.map Prod.snd

/-- The indices of the cells are `k`, `k + 1`, and so on. -/
def wfFrom : Nat → List Host.Cell → Bool
  | _, [] => true
  | k, (addr, _) :: rest => addr == k && wfFrom (k + 1) rest

/-- The canonical form of an image: its indices are exactly 0, 1, ..., L-1, in rising order. -/
def Memory.wf (m : Memory) : Bool :=
  wfFrom 0 m.cells

/-- `L` of the bound image, and 0 where none is bound: no run is in progress without one (DESIGN CHOICE, safe: log 4). -/
def State.imageLength (s : State) : Nat :=
  match s.image with
  | none => 0
  | some m => m.length

/-- The byte of the bound image at an index, or nothing where there is none (R31; DESIGN CHOICE, safe: log 4). -/
def memRead (s : State) (addr : Nat) : Option Byte :=
  match s.image with
  | none => none
  | some m => m.read addr

/-! ### The core's own operations -/

/-- `PC <- PC + n`, after `n` bytes of the image were read (spec/40_interpreter_loop.md R67). The sum is 16-bit and never
overflows in a run (R72; DEDUCED, safe: log 10). -/
def State.advance (s : State) (n : Nat) : State :=
  { s with pc := s.pc + BitVec.ofNat 16 n }

/-- `A <- v` (R11). -/
def State.setA (s : State) (v : Byte) : State :=
  { s with a := v }

/-- `P <- v` (R15): the way every flag update reaches the register. -/
def State.setP (s : State) (v : Byte) : State :=
  { s with p := v }

/-- The normal end of a run: `status <- Halted` and nothing else (R69, R75). -/
def State.halt (s : State) : State :=
  { s with status := .halted }

/-- TAKING THE EXCEPTION `OutOfBounds(kind, PC)` (spec/60_exceptions.md R83, R84): the run is over, `status <- Fault` with the
record, and every register keeps the value it has at the failing read. There is no handler, no vector and no push; `P`,
`SP` and `PC` are not touched. The core has no return from it (R86). It is a next
state, as in the pseudocode of R69 and the table of R106 (the record's place: DESIGN CHOICE, safe: log 1). -/
def raiseOutOfBounds (kind : AccessKind) (s : State) : State :=
  { s with status := .fault { kind := kind, addr := s.pc } }

/-- The shared meaning of the 254 unimplemented opcodes: advance past the opcode byte, do nothing, and go on with the
next fetch (spec/43_unimplemented_opcodes.md R77). -/
def unimplemented (s : State) : Host.Outcome State Fault Refusal :=
  .next (s.advance 1)

/-! ### The host's moves between runs (spec/70_reset_and_hazards.md) -/

/-- `reset()`: all six registers to their power-on values whatever they held, status Idle, the image binding dropped
(R26, R101). -/
def resetCore (s : State) : State :=
  { State.reset with calls := s.calls }

/-- The start of a run (R65, R103, R104): bind the image, `PC <- 0`, `status <- Running`, and nothing else
(DEDUCED, unsafe if a build also resets the registers: log 14; the image is constant from then on, DESIGN CHOICE, unsafe
for a host that changes it: log 8). -/
def startRun (program : List Byte) (s : State) : State :=
  { s with image := some (Memory.ofBytes program), pc := Config.entryIndex, status := .running }

/-- One call of the host in status Idle or Halted (R106). `interpret` with more than 65535 bytes is refused (R34). -/
def hostCall (c : HostCall) (s : State) : Host.Outcome State Fault Refusal :=
  match c with
  | .reset => .next (resetCore s)
  | .interpret program =>
    if programWellFormed program then .next (startRun program s) else .refused .imageTooLong

/-- What happens between runs: the host makes its next call if it has one, and otherwise the core idles and every
register keeps its value (R96, R106; DESIGN CHOICE, safe: log 5). -/
def betweenRuns (s : State) : Host.Outcome State Fault Refusal :=
  match s.calls with
  | [] => .next s
  | c :: rest => hostCall c { s with calls := rest }

/-- The registers as the host reads them: the source's `ProcessorState` (R10). -/
structure ProcessorState where
  a : Byte
  x : Byte
  y : Byte
  sp : Byte
  p : Byte
  pc : Word
  deriving DecidableEq, Repr

/-- The six registers of a state. -/
def State.registers (s : State) : ProcessorState :=
  { a := s.a, x := s.x, y := s.y, sp := s.sp, p := s.p, pc := s.pc }

/-- The host's read of the registers: allowed in status Idle and Halted; no such move in Running or Fault (R25, R106,
D24; DESIGN CHOICE, safe: log 9). It has no side effect. -/
def observe (s : State) : Option ProcessorState :=
  match s.status with
  | .idle => some s.registers
  | .halted => some s.registers
  | .running => none
  | .fault _ => none

end Sys2Proof.Machine
end

