-- ==== Sys2Proof/Machine/Halt.lean ====
section
/-! DEFINITION. The halt instruction (spec/41_halt.md). -/
namespace Sys2Proof.Machine

/-- `BRK`, opcode `0x00` (R75): advance past the opcode byte and end the run in Halted. Nothing is pushed, no flag is
set, no vector is read, and there is no padding byte (R63, D18). -/
def execBrk (s : State) : Host.Outcome State Fault Refusal :=
  .next (s.advance 1).halt

end Sys2Proof.Machine
end

