-- ==== Sys2Proof/Machine/Flags.lean ====
section
/-! DEFINITION. The status register's bits, its primitives, and the ALU flag logic (spec/10_state.md R15 to R21). -/
namespace Sys2Proof.Machine

/-- The eight named flags of `P` (R15). -/
inductive StatusFlag where
  /-- Carry. -/
  | c
  /-- Zero. -/
  | z
  /-- Interrupt-disable: stored, masks nothing (R16, R89). -/
  | i
  /-- Decimal mode: stored, selects nothing (R16). -/
  | d
  /-- Break: stored, not set by opcode `0x00` (R16, R75). -/
  | b
  /-- Unused: a stored bit, set at power-on, not hard-wired (R17). -/
  | u
  /-- Overflow. -/
  | v
  /-- Negative. -/
  | n
  deriving DecidableEq, Repr

/-- The bit position of a flag in `P` (R15). -/
def StatusFlag.position : StatusFlag → Nat
  | .c => 0
  | .z => 1
  | .i => 2
  | .d => 3
  | .b => 4
  | .u => 5
  | .v => 6
  | .n => 7

/-- The mask of a flag: bit `n` weighs `2^n` (R15, D25, DESIGN CHOICE, unsafe if a build numbers bits otherwise: log 15). -/
def StatusFlag.mask (f : StatusFlag) : Byte :=
  1 <<< f.position

/-- `test(P, f)` (R18). -/
def testFlag (p : Byte) (f : StatusFlag) : Bool :=
  (p &&& f.mask) != 0

/-- `insert(P, f)` (R18). -/
def insertFlag (p : Byte) (f : StatusFlag) : Byte :=
  p ||| f.mask

/-- `remove(P, f)` (R18). -/
def removeFlag (p : Byte) (f : StatusFlag) : Byte :=
  p &&& ~~~f.mask

/-- `bits(P)`: the raw flag byte (R18). -/
def flagBits (p : Byte) : Byte :=
  p

/-- `setFlag(P, f, cond)`: the sole mutator a handler uses (R19). -/
def setFlag (p : Byte) (f : StatusFlag) (cond : Bool) : Byte :=
  if cond then insertFlag p f else removeFlag p f

/-- `SetZN(v)`: Zero when `v` is 0, Negative when bit 7 of `v` is 1, each cleared otherwise, no other flag touched
(R20). -/
def setZN (p : Byte) (v : Byte) : Byte :=
  setFlag (setFlag p .z (v == 0)) .n (v.getLsbD 7)

end Sys2Proof.Machine
end

