-- ==== Sys2Proof/Machine/Operands.lean ====
section
/-! DEFINITION. Reading an instruction's bytes from the image: the opcode fetch (spec/40_interpreter_loop.md R66, R67) and
the one operand form, immediate (spec/42_load_accumulator_immediate.md, "Addressing mode: immediate"; spec/30_encoding.md
R55). Both reads can raise `OutOfBounds` (spec/60_exceptions.md R81, R82). -/
namespace Sys2Proof.Machine

/-- The index of the opcode byte: `PC` at the start of the step (R66). -/
def opcodeIndex (s : State) : Nat :=
  s.pc.toNat

/-- The index of the immediate operand: `PC` after the advance past the opcode byte (R67, R76). -/
def operandIndex (s : State) : Nat :=
  s.pc.toNat + 1

/-- The bytes a step can read at `PC`, opcode first, at most two (R50). A byte the decoder does not ask for has no
effect: a read has none (R37, R53). -/
def instrBytes (s : State) : List Byte :=
  match memRead s (opcodeIndex s) with
  | none => []
  | some op =>
    match memRead s (operandIndex s) with
    | none => [op]
    | some operand => [op, operand]

/-- Fetch and decode the instruction at `PC`: the instruction, or the state after `OutOfBounds` was taken. A missing
opcode byte leaves `PC` as it was (R81); a missing operand byte leaves `PC` past the opcode byte (R82). -/
def fetch (s : State) : Except State Instr :=
  match decode (instrBytes s) with
  | .ok (i, _) => .ok i
  | .error .noOpcode => .error (raiseOutOfBounds .opcode s)
  | .error .noOperand => .error (raiseOutOfBounds .operand (s.advance 1))

/-- The immediate operand as the handler uses it: exactly as read, neither extended nor scaled (R55). -/
def immediate (imm8 : Byte) : Byte :=
  imm8

end Sys2Proof.Machine
end

