-- ==== Sys2Proof/Machine/Load.lean ====
section
/-! DEFINITION. The load instruction (spec/42_load_accumulator_immediate.md). -/
namespace Sys2Proof.Machine

/-- Load a value into the accumulator and derive Zero and Negative from it (R20, R76). -/
def State.loadA (s : State) (v : Byte) : State :=
  (s.setA v).setP (setZN s.p v)

/-- `LDA #imm8`, opcode `0xA9` (R76): `PC` past the opcode byte and past the operand byte, `A <- imm8`, `Z` and `N` from
`imm8`. That the operand byte is there was checked when it was read: where it is not, `fetch` has taken
`OutOfBounds(operand, PC)` before `A` or `P` is written (R82; DEDUCED, safe: log 3). -/
def execLdaImm (imm8 : Byte) (s : State) : Host.Outcome State Fault Refusal :=
  .next (((s.advance 1).advance 1).loadA (immediate imm8))

end Sys2Proof.Machine
end

