-- ==== Sys2Proof/Machine/Unimplemented.lean ====
section
/-! DEFINITION. The 254 unimplemented opcodes (spec/43_unimplemented_opcodes.md R77, R78): each is a one-byte no-op, so each
meaning is the one shared operation `unimplemented` of Machine/Ops.lean. They do not do what the MOS 6502 instruction of
the same byte does (R63). -/
namespace Sys2Proof.Machine

/-- `UNIMP $01`: opcode `0x01` (R77). -/
def execUnimp01 (s : State) : Host.Outcome State Fault Refusal :=
  unimplemented s

/-- `UNIMP $02`: opcode `0x02` (R77). -/
def execUnimp02 (s : State) : Host.Outcome State Fault Refusal :=
  unimplemented s

/-- `UNIMP $03`: opcode `0x03` (R77). -/
def execUnimp03 (s : State) : Host.Outcome State Fault Refusal :=
  unimplemented s

/-- `UNIMP $04`: opcode `0x04` (R77). -/
def execUnimp04 (s : State) : Host.Outcome State Fault Refusal :=
  unimplemented s

/-- `UNIMP $05`: opcode `0x05` (R77). -/
def execUnimp05 (s : State) : Host.Outcome State Fault Refusal :=
  unimplemented s

/-- `UNIMP $06`: opcode `0x06` (R77). -/
def execUnimp06 (s : State) : Host.Outcome State Fault Refusal :=
  unimplemented s

/-- `UNIMP $07`: opcode `0x07` (R77). -/
def execUnimp07 (s : State) : Host.Outcome State Fault Refusal :=
  unimplemented s

/-- `UNIMP $08`: opcode `0x08` (R77). -/
def execUnimp08 (s : State) : Host.Outcome State Fault Refusal :=
  unimplemented s

/-- `UNIMP $09`: opcode `0x09` (R77). -/
def execUnimp09 (s : State) : Host.Outcome State Fault Refusal :=
  unimplemented s

/-- `UNIMP $0A`: opcode `0x0A` (R77). -/
def execUnimp0A (s : State) : Host.Outcome State Fault Refusal :=
  unimplemented s

/-- `UNIMP $0B`: opcode `0x0B` (R77). -/
def execUnimp0B (s : State) : Host.Outcome State Fault Refusal :=
  unimplemented s

/-- `UNIMP $0C`: opcode `0x0C` (R77). -/
def execUnimp0C (s : State) : Host.Outcome State Fault Refusal :=
  unimplemented s

/-- `UNIMP $0D`: opcode `0x0D` (R77). -/
def execUnimp0D (s : State) : Host.Outcome State Fault Refusal :=
  unimplemented s

/-- `UNIMP $0E`: opcode `0x0E` (R77). -/
def execUnimp0E (s : State) : Host.Outcome State Fault Refusal :=
  unimplemented s

/-- `UNIMP $0F`: opcode `0x0F` (R77). -/
def execUnimp0F (s : State) : Host.Outcome State Fault Refusal :=
  unimplemented s

/-- `UNIMP $10`: opcode `0x10` (R77). -/
def execUnimp10 (s : State) : Host.Outcome State Fault Refusal :=
  unimplemented s

/-- `UNIMP $11`: opcode `0x11` (R77). -/
def execUnimp11 (s : State) : Host.Outcome State Fault Refusal :=
  unimplemented s

/-- `UNIMP $12`: opcode `0x12` (R77). -/
def execUnimp12 (s : State) : Host.Outcome State Fault Refusal :=
  unimplemented s

/-- `UNIMP $13`: opcode `0x13` (R77). -/
def execUnimp13 (s : State) : Host.Outcome State Fault Refusal :=
  unimplemented s

/-- `UNIMP $14`: opcode `0x14` (R77). -/
def execUnimp14 (s : State) : Host.Outcome State Fault Refusal :=
  unimplemented s

/-- `UNIMP $15`: opcode `0x15` (R77). -/
def execUnimp15 (s : State) : Host.Outcome State Fault Refusal :=
  unimplemented s

/-- `UNIMP $16`: opcode `0x16` (R77). -/
def execUnimp16 (s : State) : Host.Outcome State Fault Refusal :=
  unimplemented s

/-- `UNIMP $17`: opcode `0x17` (R77). -/
def execUnimp17 (s : State) : Host.Outcome State Fault Refusal :=
  unimplemented s

/-- `UNIMP $18`: opcode `0x18` (R77). -/
def execUnimp18 (s : State) : Host.Outcome State Fault Refusal :=
  unimplemented s

/-- `UNIMP $19`: opcode `0x19` (R77). -/
def execUnimp19 (s : State) : Host.Outcome State Fault Refusal :=
  unimplemented s

/-- `UNIMP $1A`: opcode `0x1A` (R77). -/
def execUnimp1A (s : State) : Host.Outcome State Fault Refusal :=
  unimplemented s

/-- `UNIMP $1B`: opcode `0x1B` (R77). -/
def execUnimp1B (s : State) : Host.Outcome State Fault Refusal :=
  unimplemented s

/-- `UNIMP $1C`: opcode `0x1C` (R77). -/
def execUnimp1C (s : State) : Host.Outcome State Fault Refusal :=
  unimplemented s

/-- `UNIMP $1D`: opcode `0x1D` (R77). -/
def execUnimp1D (s : State) : Host.Outcome State Fault Refusal :=
  unimplemented s

/-- `UNIMP $1E`: opcode `0x1E` (R77). -/
def execUnimp1E (s : State) : Host.Outcome State Fault Refusal :=
  unimplemented s

/-- `UNIMP $1F`: opcode `0x1F` (R77). -/
def execUnimp1F (s : State) : Host.Outcome State Fault Refusal :=
  unimplemented s

/-- `UNIMP $20`: opcode `0x20` (R77). -/
def execUnimp20 (s : State) : Host.Outcome State Fault Refusal :=
  unimplemented s

/-- `UNIMP $21`: opcode `0x21` (R77). -/
def execUnimp21 (s : State) : Host.Outcome State Fault Refusal :=
  unimplemented s

/-- `UNIMP $22`: opcode `0x22` (R77). -/
def execUnimp22 (s : State) : Host.Outcome State Fault Refusal :=
  unimplemented s

/-- `UNIMP $23`: opcode `0x23` (R77). -/
def execUnimp23 (s : State) : Host.Outcome State Fault Refusal :=
  unimplemented s

/-- `UNIMP $24`: opcode `0x24` (R77). -/
def execUnimp24 (s : State) : Host.Outcome State Fault Refusal :=
  unimplemented s

/-- `UNIMP $25`: opcode `0x25` (R77). -/
def execUnimp25 (s : State) : Host.Outcome State Fault Refusal :=
  unimplemented s

/-- `UNIMP $26`: opcode `0x26` (R77). -/
def execUnimp26 (s : State) : Host.Outcome State Fault Refusal :=
  unimplemented s

/-- `UNIMP $27`: opcode `0x27` (R77). -/
def execUnimp27 (s : State) : Host.Outcome State Fault Refusal :=
  unimplemented s

/-- `UNIMP $28`: opcode `0x28` (R77). -/
def execUnimp28 (s : State) : Host.Outcome State Fault Refusal :=
  unimplemented s

/-- `UNIMP $29`: opcode `0x29` (R77). -/
def execUnimp29 (s : State) : Host.Outcome State Fault Refusal :=
  unimplemented s

/-- `UNIMP $2A`: opcode `0x2A` (R77). -/
def execUnimp2A (s : State) : Host.Outcome State Fault Refusal :=
  unimplemented s

/-- `UNIMP $2B`: opcode `0x2B` (R77). -/
def execUnimp2B (s : State) : Host.Outcome State Fault Refusal :=
  unimplemented s

/-- `UNIMP $2C`: opcode `0x2C` (R77). -/
def execUnimp2C (s : State) : Host.Outcome State Fault Refusal :=
  unimplemented s

/-- `UNIMP $2D`: opcode `0x2D` (R77). -/
def execUnimp2D (s : State) : Host.Outcome State Fault Refusal :=
  unimplemented s

/-- `UNIMP $2E`: opcode `0x2E` (R77). -/
def execUnimp2E (s : State) : Host.Outcome State Fault Refusal :=
  unimplemented s

/-- `UNIMP $2F`: opcode `0x2F` (R77). -/
def execUnimp2F (s : State) : Host.Outcome State Fault Refusal :=
  unimplemented s

/-- `UNIMP $30`: opcode `0x30` (R77). -/
def execUnimp30 (s : State) : Host.Outcome State Fault Refusal :=
  unimplemented s

/-- `UNIMP $31`: opcode `0x31` (R77). -/
def execUnimp31 (s : State) : Host.Outcome State Fault Refusal :=
  unimplemented s

/-- `UNIMP $32`: opcode `0x32` (R77). -/
def execUnimp32 (s : State) : Host.Outcome State Fault Refusal :=
  unimplemented s

/-- `UNIMP $33`: opcode `0x33` (R77). -/
def execUnimp33 (s : State) : Host.Outcome State Fault Refusal :=
  unimplemented s

/-- `UNIMP $34`: opcode `0x34` (R77). -/
def execUnimp34 (s : State) : Host.Outcome State Fault Refusal :=
  unimplemented s

/-- `UNIMP $35`: opcode `0x35` (R77). -/
def execUnimp35 (s : State) : Host.Outcome State Fault Refusal :=
  unimplemented s

/-- `UNIMP $36`: opcode `0x36` (R77). -/
def execUnimp36 (s : State) : Host.Outcome State Fault Refusal :=
  unimplemented s

/-- `UNIMP $37`: opcode `0x37` (R77). -/
def execUnimp37 (s : State) : Host.Outcome State Fault Refusal :=
  unimplemented s

/-- `UNIMP $38`: opcode `0x38` (R77). -/
def execUnimp38 (s : State) : Host.Outcome State Fault Refusal :=
  unimplemented s

/-- `UNIMP $39`: opcode `0x39` (R77). -/
def execUnimp39 (s : State) : Host.Outcome State Fault Refusal :=
  unimplemented s

/-- `UNIMP $3A`: opcode `0x3A` (R77). -/
def execUnimp3A (s : State) : Host.Outcome State Fault Refusal :=
  unimplemented s

/-- `UNIMP $3B`: opcode `0x3B` (R77). -/
def execUnimp3B (s : State) : Host.Outcome State Fault Refusal :=
  unimplemented s

/-- `UNIMP $3C`: opcode `0x3C` (R77). -/
def execUnimp3C (s : State) : Host.Outcome State Fault Refusal :=
  unimplemented s

/-- `UNIMP $3D`: opcode `0x3D` (R77). -/
def execUnimp3D (s : State) : Host.Outcome State Fault Refusal :=
  unimplemented s

/-- `UNIMP $3E`: opcode `0x3E` (R77). -/
def execUnimp3E (s : State) : Host.Outcome State Fault Refusal :=
  unimplemented s

/-- `UNIMP $3F`: opcode `0x3F` (R77). -/
def execUnimp3F (s : State) : Host.Outcome State Fault Refusal :=
  unimplemented s

/-- `UNIMP $40`: opcode `0x40` (R77). -/
def execUnimp40 (s : State) : Host.Outcome State Fault Refusal :=
  unimplemented s

/-- `UNIMP $41`: opcode `0x41` (R77). -/
def execUnimp41 (s : State) : Host.Outcome State Fault Refusal :=
  unimplemented s

/-- `UNIMP $42`: opcode `0x42` (R77). -/
def execUnimp42 (s : State) : Host.Outcome State Fault Refusal :=
  unimplemented s

/-- `UNIMP $43`: opcode `0x43` (R77). -/
def execUnimp43 (s : State) : Host.Outcome State Fault Refusal :=
  unimplemented s

/-- `UNIMP $44`: opcode `0x44` (R77). -/
def execUnimp44 (s : State) : Host.Outcome State Fault Refusal :=
  unimplemented s

/-- `UNIMP $45`: opcode `0x45` (R77). -/
def execUnimp45 (s : State) : Host.Outcome State Fault Refusal :=
  unimplemented s

/-- `UNIMP $46`: opcode `0x46` (R77). -/
def execUnimp46 (s : State) : Host.Outcome State Fault Refusal :=
  unimplemented s

/-- `UNIMP $47`: opcode `0x47` (R77). -/
def execUnimp47 (s : State) : Host.Outcome State Fault Refusal :=
  unimplemented s

/-- `UNIMP $48`: opcode `0x48` (R77). -/
def execUnimp48 (s : State) : Host.Outcome State Fault Refusal :=
  unimplemented s

/-- `UNIMP $49`: opcode `0x49` (R77). -/
def execUnimp49 (s : State) : Host.Outcome State Fault Refusal :=
  unimplemented s

/-- `UNIMP $4A`: opcode `0x4A` (R77). -/
def execUnimp4A (s : State) : Host.Outcome State Fault Refusal :=
  unimplemented s

/-- `UNIMP $4B`: opcode `0x4B` (R77). -/
def execUnimp4B (s : State) : Host.Outcome State Fault Refusal :=
  unimplemented s

/-- `UNIMP $4C`: opcode `0x4C` (R77). -/
def execUnimp4C (s : State) : Host.Outcome State Fault Refusal :=
  unimplemented s

/-- `UNIMP $4D`: opcode `0x4D` (R77). -/
def execUnimp4D (s : State) : Host.Outcome State Fault Refusal :=
  unimplemented s

/-- `UNIMP $4E`: opcode `0x4E` (R77). -/
def execUnimp4E (s : State) : Host.Outcome State Fault Refusal :=
  unimplemented s

/-- `UNIMP $4F`: opcode `0x4F` (R77). -/
def execUnimp4F (s : State) : Host.Outcome State Fault Refusal :=
  unimplemented s

/-- `UNIMP $50`: opcode `0x50` (R77). -/
def execUnimp50 (s : State) : Host.Outcome State Fault Refusal :=
  unimplemented s

/-- `UNIMP $51`: opcode `0x51` (R77). -/
def execUnimp51 (s : State) : Host.Outcome State Fault Refusal :=
  unimplemented s

/-- `UNIMP $52`: opcode `0x52` (R77). -/
def execUnimp52 (s : State) : Host.Outcome State Fault Refusal :=
  unimplemented s

/-- `UNIMP $53`: opcode `0x53` (R77). -/
def execUnimp53 (s : State) : Host.Outcome State Fault Refusal :=
  unimplemented s

/-- `UNIMP $54`: opcode `0x54` (R77). -/
def execUnimp54 (s : State) : Host.Outcome State Fault Refusal :=
  unimplemented s

/-- `UNIMP $55`: opcode `0x55` (R77). -/
def execUnimp55 (s : State) : Host.Outcome State Fault Refusal :=
  unimplemented s

/-- `UNIMP $56`: opcode `0x56` (R77). -/
def execUnimp56 (s : State) : Host.Outcome State Fault Refusal :=
  unimplemented s

/-- `UNIMP $57`: opcode `0x57` (R77). -/
def execUnimp57 (s : State) : Host.Outcome State Fault Refusal :=
  unimplemented s

/-- `UNIMP $58`: opcode `0x58` (R77). -/
def execUnimp58 (s : State) : Host.Outcome State Fault Refusal :=
  unimplemented s

/-- `UNIMP $59`: opcode `0x59` (R77). -/
def execUnimp59 (s : State) : Host.Outcome State Fault Refusal :=
  unimplemented s

/-- `UNIMP $5A`: opcode `0x5A` (R77). -/
def execUnimp5A (s : State) : Host.Outcome State Fault Refusal :=
  unimplemented s

/-- `UNIMP $5B`: opcode `0x5B` (R77). -/
def execUnimp5B (s : State) : Host.Outcome State Fault Refusal :=
  unimplemented s

/-- `UNIMP $5C`: opcode `0x5C` (R77). -/
def execUnimp5C (s : State) : Host.Outcome State Fault Refusal :=
  unimplemented s

/-- `UNIMP $5D`: opcode `0x5D` (R77). -/
def execUnimp5D (s : State) : Host.Outcome State Fault Refusal :=
  unimplemented s

/-- `UNIMP $5E`: opcode `0x5E` (R77). -/
def execUnimp5E (s : State) : Host.Outcome State Fault Refusal :=
  unimplemented s

/-- `UNIMP $5F`: opcode `0x5F` (R77). -/
def execUnimp5F (s : State) : Host.Outcome State Fault Refusal :=
  unimplemented s

/-- `UNIMP $60`: opcode `0x60` (R77). -/
def execUnimp60 (s : State) : Host.Outcome State Fault Refusal :=
  unimplemented s

/-- `UNIMP $61`: opcode `0x61` (R77). -/
def execUnimp61 (s : State) : Host.Outcome State Fault Refusal :=
  unimplemented s

/-- `UNIMP $62`: opcode `0x62` (R77). -/
def execUnimp62 (s : State) : Host.Outcome State Fault Refusal :=
  unimplemented s

/-- `UNIMP $63`: opcode `0x63` (R77). -/
def execUnimp63 (s : State) : Host.Outcome State Fault Refusal :=
  unimplemented s

/-- `UNIMP $64`: opcode `0x64` (R77). -/
def execUnimp64 (s : State) : Host.Outcome State Fault Refusal :=
  unimplemented s

/-- `UNIMP $65`: opcode `0x65` (R77). -/
def execUnimp65 (s : State) : Host.Outcome State Fault Refusal :=
  unimplemented s

/-- `UNIMP $66`: opcode `0x66` (R77). -/
def execUnimp66 (s : State) : Host.Outcome State Fault Refusal :=
  unimplemented s

/-- `UNIMP $67`: opcode `0x67` (R77). -/
def execUnimp67 (s : State) : Host.Outcome State Fault Refusal :=
  unimplemented s

/-- `UNIMP $68`: opcode `0x68` (R77). -/
def execUnimp68 (s : State) : Host.Outcome State Fault Refusal :=
  unimplemented s

/-- `UNIMP $69`: opcode `0x69` (R77). -/
def execUnimp69 (s : State) : Host.Outcome State Fault Refusal :=
  unimplemented s

/-- `UNIMP $6A`: opcode `0x6A` (R77). -/
def execUnimp6A (s : State) : Host.Outcome State Fault Refusal :=
  unimplemented s

/-- `UNIMP $6B`: opcode `0x6B` (R77). -/
def execUnimp6B (s : State) : Host.Outcome State Fault Refusal :=
  unimplemented s

/-- `UNIMP $6C`: opcode `0x6C` (R77). -/
def execUnimp6C (s : State) : Host.Outcome State Fault Refusal :=
  unimplemented s

/-- `UNIMP $6D`: opcode `0x6D` (R77). -/
def execUnimp6D (s : State) : Host.Outcome State Fault Refusal :=
  unimplemented s

/-- `UNIMP $6E`: opcode `0x6E` (R77). -/
def execUnimp6E (s : State) : Host.Outcome State Fault Refusal :=
  unimplemented s

/-- `UNIMP $6F`: opcode `0x6F` (R77). -/
def execUnimp6F (s : State) : Host.Outcome State Fault Refusal :=
  unimplemented s

/-- `UNIMP $70`: opcode `0x70` (R77). -/
def execUnimp70 (s : State) : Host.Outcome State Fault Refusal :=
  unimplemented s

/-- `UNIMP $71`: opcode `0x71` (R77). -/
def execUnimp71 (s : State) : Host.Outcome State Fault Refusal :=
  unimplemented s

/-- `UNIMP $72`: opcode `0x72` (R77). -/
def execUnimp72 (s : State) : Host.Outcome State Fault Refusal :=
  unimplemented s

/-- `UNIMP $73`: opcode `0x73` (R77). -/
def execUnimp73 (s : State) : Host.Outcome State Fault Refusal :=
  unimplemented s

/-- `UNIMP $74`: opcode `0x74` (R77). -/
def execUnimp74 (s : State) : Host.Outcome State Fault Refusal :=
  unimplemented s

/-- `UNIMP $75`: opcode `0x75` (R77). -/
def execUnimp75 (s : State) : Host.Outcome State Fault Refusal :=
  unimplemented s

/-- `UNIMP $76`: opcode `0x76` (R77). -/
def execUnimp76 (s : State) : Host.Outcome State Fault Refusal :=
  unimplemented s

/-- `UNIMP $77`: opcode `0x77` (R77). -/
def execUnimp77 (s : State) : Host.Outcome State Fault Refusal :=
  unimplemented s

/-- `UNIMP $78`: opcode `0x78` (R77). -/
def execUnimp78 (s : State) : Host.Outcome State Fault Refusal :=
  unimplemented s

/-- `UNIMP $79`: opcode `0x79` (R77). -/
def execUnimp79 (s : State) : Host.Outcome State Fault Refusal :=
  unimplemented s

/-- `UNIMP $7A`: opcode `0x7A` (R77). -/
def execUnimp7A (s : State) : Host.Outcome State Fault Refusal :=
  unimplemented s

/-- `UNIMP $7B`: opcode `0x7B` (R77). -/
def execUnimp7B (s : State) : Host.Outcome State Fault Refusal :=
  unimplemented s

/-- `UNIMP $7C`: opcode `0x7C` (R77). -/
def execUnimp7C (s : State) : Host.Outcome State Fault Refusal :=
  unimplemented s

/-- `UNIMP $7D`: opcode `0x7D` (R77). -/
def execUnimp7D (s : State) : Host.Outcome State Fault Refusal :=
  unimplemented s

/-- `UNIMP $7E`: opcode `0x7E` (R77). -/
def execUnimp7E (s : State) : Host.Outcome State Fault Refusal :=
  unimplemented s

/-- `UNIMP $7F`: opcode `0x7F` (R77). -/
def execUnimp7F (s : State) : Host.Outcome State Fault Refusal :=
  unimplemented s

/-- `UNIMP $80`: opcode `0x80` (R77). -/
def execUnimp80 (s : State) : Host.Outcome State Fault Refusal :=
  unimplemented s

/-- `UNIMP $81`: opcode `0x81` (R77). -/
def execUnimp81 (s : State) : Host.Outcome State Fault Refusal :=
  unimplemented s

/-- `UNIMP $82`: opcode `0x82` (R77). -/
def execUnimp82 (s : State) : Host.Outcome State Fault Refusal :=
  unimplemented s

/-- `UNIMP $83`: opcode `0x83` (R77). -/
def execUnimp83 (s : State) : Host.Outcome State Fault Refusal :=
  unimplemented s

/-- `UNIMP $84`: opcode `0x84` (R77). -/
def execUnimp84 (s : State) : Host.Outcome State Fault Refusal :=
  unimplemented s

/-- `UNIMP $85`: opcode `0x85` (R77). -/
def execUnimp85 (s : State) : Host.Outcome State Fault Refusal :=
  unimplemented s

/-- `UNIMP $86`: opcode `0x86` (R77). -/
def execUnimp86 (s : State) : Host.Outcome State Fault Refusal :=
  unimplemented s

/-- `UNIMP $87`: opcode `0x87` (R77). -/
def execUnimp87 (s : State) : Host.Outcome State Fault Refusal :=
  unimplemented s

/-- `UNIMP $88`: opcode `0x88` (R77). -/
def execUnimp88 (s : State) : Host.Outcome State Fault Refusal :=
  unimplemented s

/-- `UNIMP $89`: opcode `0x89` (R77). -/
def execUnimp89 (s : State) : Host.Outcome State Fault Refusal :=
  unimplemented s

/-- `UNIMP $8A`: opcode `0x8A` (R77). -/
def execUnimp8A (s : State) : Host.Outcome State Fault Refusal :=
  unimplemented s

/-- `UNIMP $8B`: opcode `0x8B` (R77). -/
def execUnimp8B (s : State) : Host.Outcome State Fault Refusal :=
  unimplemented s

/-- `UNIMP $8C`: opcode `0x8C` (R77). -/
def execUnimp8C (s : State) : Host.Outcome State Fault Refusal :=
  unimplemented s

/-- `UNIMP $8D`: opcode `0x8D` (R77). -/
def execUnimp8D (s : State) : Host.Outcome State Fault Refusal :=
  unimplemented s

/-- `UNIMP $8E`: opcode `0x8E` (R77). -/
def execUnimp8E (s : State) : Host.Outcome State Fault Refusal :=
  unimplemented s

/-- `UNIMP $8F`: opcode `0x8F` (R77). -/
def execUnimp8F (s : State) : Host.Outcome State Fault Refusal :=
  unimplemented s

/-- `UNIMP $90`: opcode `0x90` (R77). -/
def execUnimp90 (s : State) : Host.Outcome State Fault Refusal :=
  unimplemented s

/-- `UNIMP $91`: opcode `0x91` (R77). -/
def execUnimp91 (s : State) : Host.Outcome State Fault Refusal :=
  unimplemented s

/-- `UNIMP $92`: opcode `0x92` (R77). -/
def execUnimp92 (s : State) : Host.Outcome State Fault Refusal :=
  unimplemented s

/-- `UNIMP $93`: opcode `0x93` (R77). -/
def execUnimp93 (s : State) : Host.Outcome State Fault Refusal :=
  unimplemented s

/-- `UNIMP $94`: opcode `0x94` (R77). -/
def execUnimp94 (s : State) : Host.Outcome State Fault Refusal :=
  unimplemented s

/-- `UNIMP $95`: opcode `0x95` (R77). -/
def execUnimp95 (s : State) : Host.Outcome State Fault Refusal :=
  unimplemented s

/-- `UNIMP $96`: opcode `0x96` (R77). -/
def execUnimp96 (s : State) : Host.Outcome State Fault Refusal :=
  unimplemented s

/-- `UNIMP $97`: opcode `0x97` (R77). -/
def execUnimp97 (s : State) : Host.Outcome State Fault Refusal :=
  unimplemented s

/-- `UNIMP $98`: opcode `0x98` (R77). -/
def execUnimp98 (s : State) : Host.Outcome State Fault Refusal :=
  unimplemented s

/-- `UNIMP $99`: opcode `0x99` (R77). -/
def execUnimp99 (s : State) : Host.Outcome State Fault Refusal :=
  unimplemented s

/-- `UNIMP $9A`: opcode `0x9A` (R77). -/
def execUnimp9A (s : State) : Host.Outcome State Fault Refusal :=
  unimplemented s

/-- `UNIMP $9B`: opcode `0x9B` (R77). -/
def execUnimp9B (s : State) : Host.Outcome State Fault Refusal :=
  unimplemented s

/-- `UNIMP $9C`: opcode `0x9C` (R77). -/
def execUnimp9C (s : State) : Host.Outcome State Fault Refusal :=
  unimplemented s

/-- `UNIMP $9D`: opcode `0x9D` (R77). -/
def execUnimp9D (s : State) : Host.Outcome State Fault Refusal :=
  unimplemented s

/-- `UNIMP $9E`: opcode `0x9E` (R77). -/
def execUnimp9E (s : State) : Host.Outcome State Fault Refusal :=
  unimplemented s

/-- `UNIMP $9F`: opcode `0x9F` (R77). -/
def execUnimp9F (s : State) : Host.Outcome State Fault Refusal :=
  unimplemented s

/-- `UNIMP $A0`: opcode `0xA0` (R77). -/
def execUnimpA0 (s : State) : Host.Outcome State Fault Refusal :=
  unimplemented s

/-- `UNIMP $A1`: opcode `0xA1` (R77). -/
def execUnimpA1 (s : State) : Host.Outcome State Fault Refusal :=
  unimplemented s

/-- `UNIMP $A2`: opcode `0xA2` (R77). -/
def execUnimpA2 (s : State) : Host.Outcome State Fault Refusal :=
  unimplemented s

/-- `UNIMP $A3`: opcode `0xA3` (R77). -/
def execUnimpA3 (s : State) : Host.Outcome State Fault Refusal :=
  unimplemented s

/-- `UNIMP $A4`: opcode `0xA4` (R77). -/
def execUnimpA4 (s : State) : Host.Outcome State Fault Refusal :=
  unimplemented s

/-- `UNIMP $A5`: opcode `0xA5` (R77). -/
def execUnimpA5 (s : State) : Host.Outcome State Fault Refusal :=
  unimplemented s

/-- `UNIMP $A6`: opcode `0xA6` (R77). -/
def execUnimpA6 (s : State) : Host.Outcome State Fault Refusal :=
  unimplemented s

/-- `UNIMP $A7`: opcode `0xA7` (R77). -/
def execUnimpA7 (s : State) : Host.Outcome State Fault Refusal :=
  unimplemented s

/-- `UNIMP $A8`: opcode `0xA8` (R77). -/
def execUnimpA8 (s : State) : Host.Outcome State Fault Refusal :=
  unimplemented s

/-- `UNIMP $AA`: opcode `0xAA` (R77). -/
def execUnimpAA (s : State) : Host.Outcome State Fault Refusal :=
  unimplemented s

/-- `UNIMP $AB`: opcode `0xAB` (R77). -/
def execUnimpAB (s : State) : Host.Outcome State Fault Refusal :=
  unimplemented s

/-- `UNIMP $AC`: opcode `0xAC` (R77). -/
def execUnimpAC (s : State) : Host.Outcome State Fault Refusal :=
  unimplemented s

/-- `UNIMP $AD`: opcode `0xAD` (R77). -/
def execUnimpAD (s : State) : Host.Outcome State Fault Refusal :=
  unimplemented s

/-- `UNIMP $AE`: opcode `0xAE` (R77). -/
def execUnimpAE (s : State) : Host.Outcome State Fault Refusal :=
  unimplemented s

/-- `UNIMP $AF`: opcode `0xAF` (R77). -/
def execUnimpAF (s : State) : Host.Outcome State Fault Refusal :=
  unimplemented s

/-- `UNIMP $B0`: opcode `0xB0` (R77). -/
def execUnimpB0 (s : State) : Host.Outcome State Fault Refusal :=
  unimplemented s

/-- `UNIMP $B1`: opcode `0xB1` (R77). -/
def execUnimpB1 (s : State) : Host.Outcome State Fault Refusal :=
  unimplemented s

/-- `UNIMP $B2`: opcode `0xB2` (R77). -/
def execUnimpB2 (s : State) : Host.Outcome State Fault Refusal :=
  unimplemented s

/-- `UNIMP $B3`: opcode `0xB3` (R77). -/
def execUnimpB3 (s : State) : Host.Outcome State Fault Refusal :=
  unimplemented s

/-- `UNIMP $B4`: opcode `0xB4` (R77). -/
def execUnimpB4 (s : State) : Host.Outcome State Fault Refusal :=
  unimplemented s

/-- `UNIMP $B5`: opcode `0xB5` (R77). -/
def execUnimpB5 (s : State) : Host.Outcome State Fault Refusal :=
  unimplemented s

/-- `UNIMP $B6`: opcode `0xB6` (R77). -/
def execUnimpB6 (s : State) : Host.Outcome State Fault Refusal :=
  unimplemented s

/-- `UNIMP $B7`: opcode `0xB7` (R77). -/
def execUnimpB7 (s : State) : Host.Outcome State Fault Refusal :=
  unimplemented s

/-- `UNIMP $B8`: opcode `0xB8` (R77). -/
def execUnimpB8 (s : State) : Host.Outcome State Fault Refusal :=
  unimplemented s

/-- `UNIMP $B9`: opcode `0xB9` (R77). -/
def execUnimpB9 (s : State) : Host.Outcome State Fault Refusal :=
  unimplemented s

/-- `UNIMP $BA`: opcode `0xBA` (R77). -/
def execUnimpBA (s : State) : Host.Outcome State Fault Refusal :=
  unimplemented s

/-- `UNIMP $BB`: opcode `0xBB` (R77). -/
def execUnimpBB (s : State) : Host.Outcome State Fault Refusal :=
  unimplemented s

/-- `UNIMP $BC`: opcode `0xBC` (R77). -/
def execUnimpBC (s : State) : Host.Outcome State Fault Refusal :=
  unimplemented s

/-- `UNIMP $BD`: opcode `0xBD` (R77). -/
def execUnimpBD (s : State) : Host.Outcome State Fault Refusal :=
  unimplemented s

/-- `UNIMP $BE`: opcode `0xBE` (R77). -/
def execUnimpBE (s : State) : Host.Outcome State Fault Refusal :=
  unimplemented s

/-- `UNIMP $BF`: opcode `0xBF` (R77). -/
def execUnimpBF (s : State) : Host.Outcome State Fault Refusal :=
  unimplemented s

/-- `UNIMP $C0`: opcode `0xC0` (R77). -/
def execUnimpC0 (s : State) : Host.Outcome State Fault Refusal :=
  unimplemented s

/-- `UNIMP $C1`: opcode `0xC1` (R77). -/
def execUnimpC1 (s : State) : Host.Outcome State Fault Refusal :=
  unimplemented s

/-- `UNIMP $C2`: opcode `0xC2` (R77). -/
def execUnimpC2 (s : State) : Host.Outcome State Fault Refusal :=
  unimplemented s

/-- `UNIMP $C3`: opcode `0xC3` (R77). -/
def execUnimpC3 (s : State) : Host.Outcome State Fault Refusal :=
  unimplemented s

/-- `UNIMP $C4`: opcode `0xC4` (R77). -/
def execUnimpC4 (s : State) : Host.Outcome State Fault Refusal :=
  unimplemented s

/-- `UNIMP $C5`: opcode `0xC5` (R77). -/
def execUnimpC5 (s : State) : Host.Outcome State Fault Refusal :=
  unimplemented s

/-- `UNIMP $C6`: opcode `0xC6` (R77). -/
def execUnimpC6 (s : State) : Host.Outcome State Fault Refusal :=
  unimplemented s

/-- `UNIMP $C7`: opcode `0xC7` (R77). -/
def execUnimpC7 (s : State) : Host.Outcome State Fault Refusal :=
  unimplemented s

/-- `UNIMP $C8`: opcode `0xC8` (R77). -/
def execUnimpC8 (s : State) : Host.Outcome State Fault Refusal :=
  unimplemented s

/-- `UNIMP $C9`: opcode `0xC9` (R77). -/
def execUnimpC9 (s : State) : Host.Outcome State Fault Refusal :=
  unimplemented s

/-- `UNIMP $CA`: opcode `0xCA` (R77). -/
def execUnimpCA (s : State) : Host.Outcome State Fault Refusal :=
  unimplemented s

/-- `UNIMP $CB`: opcode `0xCB` (R77). -/
def execUnimpCB (s : State) : Host.Outcome State Fault Refusal :=
  unimplemented s

/-- `UNIMP $CC`: opcode `0xCC` (R77). -/
def execUnimpCC (s : State) : Host.Outcome State Fault Refusal :=
  unimplemented s

/-- `UNIMP $CD`: opcode `0xCD` (R77). -/
def execUnimpCD (s : State) : Host.Outcome State Fault Refusal :=
  unimplemented s

/-- `UNIMP $CE`: opcode `0xCE` (R77). -/
def execUnimpCE (s : State) : Host.Outcome State Fault Refusal :=
  unimplemented s

/-- `UNIMP $CF`: opcode `0xCF` (R77). -/
def execUnimpCF (s : State) : Host.Outcome State Fault Refusal :=
  unimplemented s

/-- `UNIMP $D0`: opcode `0xD0` (R77). -/
def execUnimpD0 (s : State) : Host.Outcome State Fault Refusal :=
  unimplemented s

/-- `UNIMP $D1`: opcode `0xD1` (R77). -/
def execUnimpD1 (s : State) : Host.Outcome State Fault Refusal :=
  unimplemented s

/-- `UNIMP $D2`: opcode `0xD2` (R77). -/
def execUnimpD2 (s : State) : Host.Outcome State Fault Refusal :=
  unimplemented s

/-- `UNIMP $D3`: opcode `0xD3` (R77). -/
def execUnimpD3 (s : State) : Host.Outcome State Fault Refusal :=
  unimplemented s

/-- `UNIMP $D4`: opcode `0xD4` (R77). -/
def execUnimpD4 (s : State) : Host.Outcome State Fault Refusal :=
  unimplemented s

/-- `UNIMP $D5`: opcode `0xD5` (R77). -/
def execUnimpD5 (s : State) : Host.Outcome State Fault Refusal :=
  unimplemented s

/-- `UNIMP $D6`: opcode `0xD6` (R77). -/
def execUnimpD6 (s : State) : Host.Outcome State Fault Refusal :=
  unimplemented s

/-- `UNIMP $D7`: opcode `0xD7` (R77). -/
def execUnimpD7 (s : State) : Host.Outcome State Fault Refusal :=
  unimplemented s

/-- `UNIMP $D8`: opcode `0xD8` (R77). -/
def execUnimpD8 (s : State) : Host.Outcome State Fault Refusal :=
  unimplemented s

/-- `UNIMP $D9`: opcode `0xD9` (R77). -/
def execUnimpD9 (s : State) : Host.Outcome State Fault Refusal :=
  unimplemented s

/-- `UNIMP $DA`: opcode `0xDA` (R77). -/
def execUnimpDA (s : State) : Host.Outcome State Fault Refusal :=
  unimplemented s

/-- `UNIMP $DB`: opcode `0xDB` (R77). -/
def execUnimpDB (s : State) : Host.Outcome State Fault Refusal :=
  unimplemented s

/-- `UNIMP $DC`: opcode `0xDC` (R77). -/
def execUnimpDC (s : State) : Host.Outcome State Fault Refusal :=
  unimplemented s

/-- `UNIMP $DD`: opcode `0xDD` (R77). -/
def execUnimpDD (s : State) : Host.Outcome State Fault Refusal :=
  unimplemented s

/-- `UNIMP $DE`: opcode `0xDE` (R77). -/
def execUnimpDE (s : State) : Host.Outcome State Fault Refusal :=
  unimplemented s

/-- `UNIMP $DF`: opcode `0xDF` (R77). -/
def execUnimpDF (s : State) : Host.Outcome State Fault Refusal :=
  unimplemented s

/-- `UNIMP $E0`: opcode `0xE0` (R77). -/
def execUnimpE0 (s : State) : Host.Outcome State Fault Refusal :=
  unimplemented s

/-- `UNIMP $E1`: opcode `0xE1` (R77). -/
def execUnimpE1 (s : State) : Host.Outcome State Fault Refusal :=
  unimplemented s

/-- `UNIMP $E2`: opcode `0xE2` (R77). -/
def execUnimpE2 (s : State) : Host.Outcome State Fault Refusal :=
  unimplemented s

/-- `UNIMP $E3`: opcode `0xE3` (R77). -/
def execUnimpE3 (s : State) : Host.Outcome State Fault Refusal :=
  unimplemented s

/-- `UNIMP $E4`: opcode `0xE4` (R77). -/
def execUnimpE4 (s : State) : Host.Outcome State Fault Refusal :=
  unimplemented s

/-- `UNIMP $E5`: opcode `0xE5` (R77). -/
def execUnimpE5 (s : State) : Host.Outcome State Fault Refusal :=
  unimplemented s

/-- `UNIMP $E6`: opcode `0xE6` (R77). -/
def execUnimpE6 (s : State) : Host.Outcome State Fault Refusal :=
  unimplemented s

/-- `UNIMP $E7`: opcode `0xE7` (R77). -/
def execUnimpE7 (s : State) : Host.Outcome State Fault Refusal :=
  unimplemented s

/-- `UNIMP $E8`: opcode `0xE8` (R77). -/
def execUnimpE8 (s : State) : Host.Outcome State Fault Refusal :=
  unimplemented s

/-- `UNIMP $E9`: opcode `0xE9` (R77). -/
def execUnimpE9 (s : State) : Host.Outcome State Fault Refusal :=
  unimplemented s

/-- `UNIMP $EA`: opcode `0xEA` (R77). -/
def execUnimpEA (s : State) : Host.Outcome State Fault Refusal :=
  unimplemented s

/-- `UNIMP $EB`: opcode `0xEB` (R77). -/
def execUnimpEB (s : State) : Host.Outcome State Fault Refusal :=
  unimplemented s

/-- `UNIMP $EC`: opcode `0xEC` (R77). -/
def execUnimpEC (s : State) : Host.Outcome State Fault Refusal :=
  unimplemented s

/-- `UNIMP $ED`: opcode `0xED` (R77). -/
def execUnimpED (s : State) : Host.Outcome State Fault Refusal :=
  unimplemented s

/-- `UNIMP $EE`: opcode `0xEE` (R77). -/
def execUnimpEE (s : State) : Host.Outcome State Fault Refusal :=
  unimplemented s

/-- `UNIMP $EF`: opcode `0xEF` (R77). -/
def execUnimpEF (s : State) : Host.Outcome State Fault Refusal :=
  unimplemented s

/-- `UNIMP $F0`: opcode `0xF0` (R77). -/
def execUnimpF0 (s : State) : Host.Outcome State Fault Refusal :=
  unimplemented s

/-- `UNIMP $F1`: opcode `0xF1` (R77). -/
def execUnimpF1 (s : State) : Host.Outcome State Fault Refusal :=
  unimplemented s

/-- `UNIMP $F2`: opcode `0xF2` (R77). -/
def execUnimpF2 (s : State) : Host.Outcome State Fault Refusal :=
  unimplemented s

/-- `UNIMP $F3`: opcode `0xF3` (R77). -/
def execUnimpF3 (s : State) : Host.Outcome State Fault Refusal :=
  unimplemented s

/-- `UNIMP $F4`: opcode `0xF4` (R77). -/
def execUnimpF4 (s : State) : Host.Outcome State Fault Refusal :=
  unimplemented s

/-- `UNIMP $F5`: opcode `0xF5` (R77). -/
def execUnimpF5 (s : State) : Host.Outcome State Fault Refusal :=
  unimplemented s

/-- `UNIMP $F6`: opcode `0xF6` (R77). -/
def execUnimpF6 (s : State) : Host.Outcome State Fault Refusal :=
  unimplemented s

/-- `UNIMP $F7`: opcode `0xF7` (R77). -/
def execUnimpF7 (s : State) : Host.Outcome State Fault Refusal :=
  unimplemented s

/-- `UNIMP $F8`: opcode `0xF8` (R77). -/
def execUnimpF8 (s : State) : Host.Outcome State Fault Refusal :=
  unimplemented s

/-- `UNIMP $F9`: opcode `0xF9` (R77). -/
def execUnimpF9 (s : State) : Host.Outcome State Fault Refusal :=
  unimplemented s

/-- `UNIMP $FA`: opcode `0xFA` (R77). -/
def execUnimpFA (s : State) : Host.Outcome State Fault Refusal :=
  unimplemented s

/-- `UNIMP $FB`: opcode `0xFB` (R77). -/
def execUnimpFB (s : State) : Host.Outcome State Fault Refusal :=
  unimplemented s

/-- `UNIMP $FC`: opcode `0xFC` (R77). -/
def execUnimpFC (s : State) : Host.Outcome State Fault Refusal :=
  unimplemented s

/-- `UNIMP $FD`: opcode `0xFD` (R77). -/
def execUnimpFD (s : State) : Host.Outcome State Fault Refusal :=
  unimplemented s

/-- `UNIMP $FE`: opcode `0xFE` (R77). -/
def execUnimpFE (s : State) : Host.Outcome State Fault Refusal :=
  unimplemented s

/-- `UNIMP $FF`: opcode `0xFF` (R77). -/
def execUnimpFF (s : State) : Host.Outcome State Fault Refusal :=
  unimplemented s

end Sys2Proof.Machine
end

