-- ==== Sys2Proof/Machine/Step.lean ====
section
/-! DEFINITION. One step of the machine, by run status (spec/70_reset_and_hazards.md R106). -/
namespace Sys2Proof.Machine

/-- One step. Running: fetch, decode and execute one instruction, or take `OutOfBounds` (spec/40_interpreter_loop.md R66
to R69). Idle or Halted: the host's turn. Fault: no move is defined (spec/60_exceptions.md R86; DESIGN CHOICE, safe: log 1).
While Running the host's calls wait (DESIGN CHOICE, unsafe for a host that interferes: log 7). -/
def step (s : State) : Host.Outcome State Fault Refusal :=
  match s.status with
  | .idle => betweenRuns s
  | .halted => betweenRuns s
  | .fault r => .fault (.outOfBounds r.kind r.addr)
  | .running =>
    match fetch s with
    | .ok i => exec i s
    | .error s' => .next s'

/-- `s` with the run of the image that holds just this instruction begun, exactly as `interpret` begins it: the image
bound, `PC` at its first byte, status Running. The core fetches from nothing else than the image a run is started
with, always from index 0 (R65, R104), so this is all that the fetch takes (DEDUCED, safe: log 13). -/
def State.withFetchWord (s : State) (nbits w : Nat) : State :=
  startRun (tableBytes nbits w) s

end Sys2Proof.Machine
end

