-- ==== Sys2Proof/Safety.lean ====
section
/-! DEFINITION. The terms claims are stated in: how a run ends, the invariants of the machine, instruction boundaries, and
a reference reading of the interpreter loop that does not go through decode, dispatch or step. -/
namespace Sys2Proof.Machine

/-- A run that has ended well: only then has it a result (spec/70_reset_and_hazards.md R107). -/
def EndedWell (s : State) : Prop :=
  s.status = .halted

/-- A run that has ended, in Halted or in Fault (R97, R107). -/
def Ended (s : State) : Prop :=
  s.status = .halted ∨ ∃ r, s.status = .fault r

/-- No run is in progress and none has faulted: the states in which the host has moves (R106). -/
def BetweenRuns (s : State) : Prop :=
  s.status = .idle ∨ s.status = .halted

/-- An image a run may have: in canonical form and of an admitted length (spec/20_memory.md R34). -/
def ImageAdmitted (m : Memory) : Prop :=
  m.wf = true ∧ m.length ≤ Config.maxImageLength

/-- What the run status says of `PC` and the image. Idle: exactly the power-on registers and no image. Running:
`0 <= PC <= L` (spec/40_interpreter_loop.md R73). Halted: `PC` is one past a halt opcode (R107). Fault: the recorded
address is `PC`, and it is `L` (spec/60_exceptions.md R83, R84). -/
def StatusConsistent (s : State) : Prop :=
  match s.status with
  | .idle => s.image = none ∧ s.registers = State.reset.registers
  | .running => s.image.isSome = true ∧ s.pc.toNat ≤ s.imageLength
  | .halted => ∃ k, memRead s k = some 0x00 ∧ s.pc.toNat = k + 1
  | .fault r => s.image.isSome = true ∧ r.addr = s.pc ∧ s.pc.toNat = s.imageLength

/-- The invariant of the machine: the bound image is admitted, and the status agrees with `PC` and the image. -/
structure Inv (s : State) : Prop where
  image : ∀ m, s.image = some m → ImageAdmitted m
  status : StatusConsistent s

/-- The register values that occur from power-on (spec/10_state.md R12, R13, R17, R28): `X`, `Y`, `SP` hold 0, and `P`
takes one of three values, which agrees with the accumulator. -/
structure RegisterInv (s : State) : Prop where
  x : s.x = 0x00
  y : s.y = 0x00
  sp : s.sp = 0x00
  p : (s.p = 0x24 ∧ s.a.getLsbD 7 = false) ∨ (s.p = 0x26 ∧ s.a = 0x00) ∨ (s.p = 0xA4 ∧ s.a.getLsbD 7 = true)

/-- The instruction boundaries of an image (spec/30_encoding.md R54): index 0, and after each boundary the index past
the instruction there, whose length its opcode byte gives (R53). -/
inductive InstrBoundary (m : Memory) : Nat → Prop where
  | entry : InstrBoundary m 0
  | after (k : Nat) (op : Byte) : InstrBoundary m k → m.read k = some op → InstrBoundary m (k + instrLength op)

/-- Every opcode fetch is at an instruction boundary of the image (R54): `PC` while a run is in progress, and the index
of the halt opcode after one that ended well. -/
def BoundaryInv (s : State) : Prop :=
  ∀ m, s.image = some m →
    (s.status = .running → InstrBoundary m s.pc.toNat) ∧
    (s.status = .halted → ∃ k, InstrBoundary m k ∧ m.read k = some 0x00 ∧ s.pc.toNat = k + 1)

/-- The interpreter loop read straight from the bytes that follow `PC` (spec/40_interpreter_loop.md, pseudocode of
R66 to R69; spec/41 R75, spec/42 R76, spec/43 R77, spec/60 R81, R82), to the end of the run. It is written with record
updates and goes through none of the machine's operations, so that the machine can be proved to agree with it. -/
def interpretFrom : List Byte → State → State
  | [], s => { s with status := .fault { kind := .opcode, addr := s.pc } }
  | op :: rest, s =>
    if op = 0x00 then { s with pc := s.pc + 1, status := .halted }
    else if op = 0xA9 then
      match rest with
      | [] => { s with pc := s.pc + 1, status := .fault { kind := .operand, addr := s.pc + 1 } }
      | v :: rest' =>
        interpretFrom rest' { s with
          pc := s.pc + 2
          a := v
          p := (s.p &&& 0x7D) ||| (if v = 0x00 then 0x02 else 0x00) ||| (v &&& 0x80) }
    else interpretFrom rest { s with pc := s.pc + 1 }

end Sys2Proof.Machine
end

