-- ==== Sys2Proof/Certificates/Slice0/Obligations.lean ====
section
/-! DEFINITION. The statements for the provers, file by file of spec/. "Running", "Idle", "Halted" and "Fault" are the
values of the run status (spec/10_state.md R23). A byte of memory is read with `memRead`, the model's read of the image. -/

open Sys2Proof Sys2Proof.Machine

/-! ### spec/10_state.md and spec/70_reset_and_hazards.md: the state and its reset values -/

/-- spec/10_state.md section 6: the value of every piece of state after power-on and after `reset()`: A, X, Y, SP and PC
are 0, P has Interrupt-disable and Unused set and all else clear (the byte `0x24`), the status is Idle, no image is bound.
That power-on leaves what `reset()` leaves is the reading D16 (log 14), and that the pattern of P is the byte `0x24` is an
inference the spec marks as its own, from the bit weights of its decision D25 (log 15). -/
def Obligations.PowerOnAndResetValues : Prop :=
  let Stated (t : State) : Prop :=
    t.a = 0x00 ∧ t.x = 0x00 ∧ t.y = 0x00 ∧ t.sp = 0x00 ∧ t.pc = 0x0000 ∧
    (∀ f : StatusFlag, testFlag t.p f = (f == .i || f == .u)) ∧ t.p = 0x24 ∧ t.status = .idle ∧ t.image = none
  Stated State.reset ∧ ∀ s : State, Stated (resetCore s)

/-- R101: the host's call of `reset()` in Idle or Halted. The step answers the power-on state whatever the registers
held, with the call taken from the queue; and two resets in a row leave the same state as one. -/
def Obligations.ResetCallRestoresPowerOnState : Prop :=
  (∀ (s : State) (rest : List HostCall), BetweenRuns s → s.calls = .reset :: rest →
    step s = .next { a := 0x00, x := 0x00, y := 0x00, sp := 0x00, p := 0x24, pc := 0x0000, status := .idle,
                     image := none, calls := rest }) ∧
  (∀ (s : State) (rest : List HostCall), BetweenRuns s → s.calls = .reset :: .reset :: rest →
    ∃ t u, step s = .next t ∧ step t = .next u ∧ u = { t with calls := rest })

/-- spec/10_state.md section 2 (the bit positions of R15): the eight flags stand at the positions C0 Z1 I2 D3 B4 U5 V6
N7, one at each, and there is no ninth: a flag byte is determined by its eight flags. That bit n weighs 2^n is the
spec's own decision D25 (log 15). -/
def Obligations.FlagPositionsAreTheEightBits : Prop :=
  StatusFlag.position .c = 0 ∧ StatusFlag.position .z = 1 ∧ StatusFlag.position .i = 2 ∧ StatusFlag.position .d = 3 ∧
  StatusFlag.position .b = 4 ∧ StatusFlag.position .u = 5 ∧ StatusFlag.position .v = 6 ∧ StatusFlag.position .n = 7 ∧
  (∀ k < 8, ∃ f : StatusFlag, f.position = k ∧ ∀ g : StatusFlag, g.position = k → g = f) ∧
  (∀ f : StatusFlag, f.mask.toNat = 2 ^ f.position) ∧
  (∀ p q : Byte, (∀ f : StatusFlag, testFlag p f = testFlag q f) → p = q)

/-- R18: `test`, `insert`, `remove` and `bits` are the masks' formulas, and `insert` and `remove` set and clear the one
bit and leave every other bit unchanged. They answer for every byte and every flag. -/
def Obligations.FlagPrimitivesTouchOneBit : Prop :=
  ∀ (p : Byte) (f : StatusFlag),
    testFlag p f = ((p &&& f.mask) != 0) ∧ insertFlag p f = p ||| f.mask ∧ removeFlag p f = p &&& ~~~f.mask ∧ flagBits p = p ∧
    testFlag (insertFlag p f) f = true ∧ testFlag (removeFlag p f) f = false ∧
    ∀ g : StatusFlag, g ≠ f → testFlag (insertFlag p f) g = testFlag p g ∧ testFlag (removeFlag p f) g = testFlag p g

/-- R19: `setFlag` is `insert` when the condition holds, else `remove`: it gives the flag the condition's value, keeps
every other bit, and is idempotent. -/
def Obligations.SetFlagWritesOneBit : Prop :=
  ∀ (p : Byte) (f : StatusFlag) (cond : Bool),
    setFlag p f cond = (if cond then insertFlag p f else removeFlag p f) ∧
    testFlag (setFlag p f cond) f = cond ∧
    (∀ g : StatusFlag, g ≠ f → testFlag (setFlag p f cond) g = testFlag p g) ∧
    setFlag (setFlag p f cond) f cond = setFlag p f cond

/-- R20: `SetZN(v)` sets Zero when v is 0 and clears it otherwise, sets Negative when bit 7 of v is 1 and clears it
otherwise, and touches no other flag; and the order of the two writes cannot be observed. -/
def Obligations.SetZnWritesZeroAndNegative : Prop :=
  ∀ p v : Byte,
    testFlag (setZN p v) .z = (v == 0x00) ∧ testFlag (setZN p v) .n = v.getLsbD 7 ∧
    (∀ g : StatusFlag, g ≠ .z → g ≠ .n → testFlag (setZN p v) g = testFlag p g) ∧
    setZN p v = setFlag (setFlag p .n (v.getLsbD 7)) .z (v == 0x00)

/-- spec/10_state.md section 3 (the closed form of SetZN, an inference the spec marks as its own): one assignment, and
Zero and Negative are never both set by it. -/
def Obligations.SetZnClosedForm : Prop :=
  ∀ p v : Byte,
    setZN p v = (p &&& 0x7D) ||| (if v = 0x00 then 0x02 else 0x00) ||| (v &&& 0x80) ∧
    ¬(testFlag (setZN p v) .z = true ∧ testFlag (setZN p v) .n = true)

/-- spec/10_state.md section 5 and spec/70_reset_and_hazards.md section 3: the host reads the six registers in Idle and
Halted, and has no read in Running or Fault (the spec's decision D24 and entry U4; log 9). -/
def Obligations.HostReadsRegistersBetweenRuns : Prop :=
  ∀ s : State,
    (BetweenRuns s → observe s = some { a := s.a, x := s.x, y := s.y, sp := s.sp, p := s.p, pc := s.pc }) ∧
    (¬BetweenRuns s → observe s = none)

/-- spec/10_state.md sections 1, 2 and 6 (inferences the spec marks as its own; log 14 for power-on, log 15 for the byte
values of P): the register values at power-on are among the reachable ones. -/
def Obligations.RegisterValuesHoldAtPowerOn : Prop :=
  RegisterInv State.reset

/-- spec/10_state.md sections 1, 2 and 6 (inferences the spec marks as its own; log 15 for the byte values of P, log 5 for
the step with no call queued): X, Y and SP stay 0, and P stays one of
`0x24`, `0x26`, `0xA4`, in agreement with A, through every step of the core and every move of the host. -/
def Obligations.EveryStepKeepsRegisterValues : Prop :=
  ∀ s t : State, RegisterInv s → step s = .next t → RegisterInv t

/-! ### spec/20_memory.md: the image -/

/-- spec/20_memory.md sections 2 and 4 and spec/30_encoding.md section 1 (the decoder never looks ahead: an inference the
spec marks as its own): a step of a run depends on no byte of the image but the one at PC, and the one after it where
the first is `0xA9`. With any other image that agrees there the step does the same to everything else. -/
def Obligations.StepReadsOnlyItsOwnBytes : Prop :=
  ∀ (s : State) (other : Option Memory), s.status = .running →
    memRead { s with image := other } s.pc.toNat = memRead s s.pc.toNat →
    (memRead s s.pc.toNat = some 0xA9 →
      memRead { s with image := other } (s.pc.toNat + 1) = memRead s (s.pc.toNat + 1)) →
    ∃ t, step s = .next t ∧ step { s with image := other } = .next { t with image := other }

/-- spec/20_memory.md section 1 (the spec's own bound, decision D1; log 6): between runs a call of `interpret` with at
most 65535 bytes starts the run, one with more is refused, and an empty image is admitted and faults at its first
fetch, at index 0. -/
def Obligations.ImageLengthIsBoundedAtRunStart : Prop :=
  ∀ (s : State) (program : List Byte) (rest : List HostCall), BetweenRuns s → s.calls = .interpret program :: rest →
    (program.length ≤ 65535 → ∃ t, step s = .next t ∧ t.status = .running) ∧
    (65535 < program.length → step s = .refused .imageTooLong) ∧
    (program = [] → ∃ t, step s = .next t ∧
      step t = .next { t with status := .fault { kind := .opcode, addr := 0 } } ∧ t.pc = 0)

/-- spec/20_memory.md sections 1 and 4 and spec/70_reset_and_hazards.md section 3: the image and the run status over one
step, in every state. A step of a run leaves the image alone; `reset()` drops it; the start of a run binds the new one.
Two clauses are the model's choice: that the image stays bound after a run has ended, until one of these two calls
(log 8; the spec does not say when a bound image that nothing retains is let go), and that a step between runs with no
call queued changes nothing (log 5). -/
def Obligations.ImageChangesOnlyBetweenRuns : Prop :=
  ∀ s t : State, step s = .next t →
    (s.status = .running ∧ t.image = s.image ∧ t.calls = s.calls) ∨
    (BetweenRuns s ∧ s.calls = [] ∧ t = s) ∨
    (BetweenRuns s ∧ (∃ rest, s.calls = .reset :: rest ∧ t.calls = rest) ∧ t.image = none ∧ t.status = .idle) ∨
    (BetweenRuns s ∧ ∃ program rest, s.calls = .interpret program :: rest ∧ t.calls = rest ∧
      t.image = some (Memory.ofBytes program) ∧ t.status = .running)

/-! ### spec/30_encoding.md: encodings -/

/-- A few words written out from the encodings of spec/30_encoding.md (formats F1 and F2, the opcode map): they decode
to the instructions they stand for. -/
def Obligations.KnownWordsDecode : Prop :=
  decode [0b00000000] = .ok (.brk, []) ∧
  decode [0b10101001, 0b10000000] = .ok (.ldaImm 0x80, []) ∧
  decode [0b10101001, 0b00000000, 0b00000000] = .ok (.ldaImm 0x00, [0b00000000]) ∧
  decode [0b00000001] = .ok (.unimp01, []) ∧
  decode [0b10101000] = .ok (.unimpA8, []) ∧
  decode [0b10101010] = .ok (.unimpAA, []) ∧
  decode [0b11111111, 0b00000000] = .ok (.unimpFF, [0b00000000]) ∧
  decode [0b10101001] = .error .noOperand ∧
  decode [] = .error .noOpcode

/-- R56: the opcode byte selects the instruction, for all 256 byte values. `0x00` is the halt instruction, `0xA9` the
load with the byte after it, and every other byte an instruction of one byte that has that byte as its opcode and acts
as a no-op. -/
def Obligations.OpcodeByteSelectsInstruction : Prop :=
  (∀ rest : List Byte, decode (0x00 :: rest) = .ok (.brk, rest)) ∧
  (∀ (v : Byte) (rest : List Byte), decode (0xA9 :: v :: rest) = .ok (.ldaImm v, rest)) ∧
  (∀ op : Byte, op ≠ 0x00 → op ≠ 0xA9 → ∃ i : Instr, i.opcode = op ∧ encode i = [op] ∧
    (∀ rest : List Byte, decode (op :: rest) = .ok (i, rest)) ∧
    ∀ s : State, exec i s = .next { s with pc := s.pc + 1 })

/-- spec/30_encoding.md sections 1 and 3 (the length rule is an inference the spec marks as its own): no encoding is
illegal. Every byte sequence begins with an instruction, as long as its opcode byte says, but for the empty one and a
lone `0xA9`. -/
def Obligations.EveryByteSequenceDecodes : Prop :=
  (∀ (op : Byte) (rest : List Byte), instrLength op ≤ (op :: rest).length →
    ∃ i : Instr, i.opcode = op ∧ decode (op :: rest) = .ok (i, (op :: rest).drop (instrLength op))) ∧
  (∀ bytes : List Byte, decode bytes = .error .noOpcode ↔ bytes = []) ∧
  (∀ bytes : List Byte, decode bytes = .error .noOperand ↔ bytes = [0xA9])

/-- Decode reads back what encode writes, for every instruction and every operand, whatever bytes follow. -/
def Obligations.DecodeInvertsEncode : Prop :=
  ∀ (i : Instr) (rest : List Byte), decode (encode i ++ rest) = .ok (i, rest)

/-- Encode writes back what decode reads: no two byte sequences are one instruction. -/
def Obligations.EncodeInvertsDecode : Prop :=
  ∀ (bytes : List Byte) (i : Instr) (rest : List Byte), decode bytes = .ok (i, rest) → encode i ++ rest = bytes

/-- spec/30_encoding.md section 1 (instruction boundaries, an inference the spec marks as its own): at power-on. -/
def Obligations.BoundariesHoldAtPowerOn : Prop :=
  BoundaryInv State.reset

/-- spec/30_encoding.md section 1 (instruction boundaries, an inference the spec marks as its own): every opcode fetch
is at an instruction boundary of the image, so an operand byte is never decoded. That the image is still there after a
halt is the model's choice (log 8). -/
def Obligations.EveryStepStaysOnBoundaries : Prop :=
  ∀ s t : State, Inv s → BoundaryInv s → step s = .next t → BoundaryInv t

/-! ### spec/40_interpreter_loop.md: the loop -/

/-- A step runs the decoded instruction. While a run is in progress, when the bytes of the image from `PC` on decode to
an instruction, the step is that instruction's `exec` at this very state: this model's `exec` moves `PC` past the
instruction's bytes itself, and the step adds nothing around it. -/
def Obligations.StepRunsDecodedInstruction : Prop :=
  ∀ (s : State) (m : Memory) (i : Instr) (rest : List Byte),
    s.status = .running → s.image = some m → m.wf = true → i.WellFormed →
    decode (m.toBytes.drop s.pc.toNat) = .ok (i, rest) → step s = exec i s

/-- spec/40_interpreter_loop.md section 1 (R65; that the other registers keep their values is an inference the spec
marks as its own): a call of `interpret` between runs binds the image, sets PC to 0 and the status to Running, and
writes nothing else. -/
def Obligations.InterpretCallStartsRun : Prop :=
  ∀ (s : State) (program : List Byte) (rest : List HostCall), BetweenRuns s → s.calls = .interpret program :: rest →
    program.length ≤ 65535 →
    step s = .next { s with image := some (Memory.ofBytes program), pc := 0x0000, status := .running, calls := rest }

/-- R69: how a step of a run continues or stops. It always answers a next state: Halted exactly when the byte at PC is
`0x00`, Fault exactly when the opcode byte, or the operand byte of a `0xA9`, is not there, and Running otherwise. -/
def Obligations.StepContinuesOrStops : Prop :=
  ∀ s : State, s.status = .running → ∃ t, step s = .next t ∧
    (t.status = .halted ↔ memRead s s.pc.toNat = some 0x00) ∧
    ((∃ r, t.status = .fault r) ↔ memRead s s.pc.toNat = none ∨
      (memRead s s.pc.toNat = some 0xA9 ∧ memRead s (s.pc.toNat + 1) = none)) ∧
    (t.status = .running ∨ t.status = .halted ∨ ∃ r, t.status = .fault r)

/-- R70, the handler contract, for every instruction in every state: it answers a next state in which PC is past exactly
the instruction's bytes (never rewound), X, Y, SP, the flags other than Z and N, the image and every byte read from it
are unchanged; A and P change by the load alone, which writes its operand to A and the flags by `setFlag`; and the status
changes by the halt alone, to Halted. A step that faults never changes X, Y, SP, the flags other than Z and N, or the
image either (what it leaves in A and P is stated by FaultKeepsRegisters). -/
def Obligations.HandlerContract : Prop :=
  (∀ (i : Instr) (s : State), ∃ t, exec i s = .next t ∧
    t.pc = s.pc + BitVec.ofNat 16 (encode i).length ∧
    t.x = s.x ∧ t.y = s.y ∧ t.sp = s.sp ∧ t.image = s.image ∧ t.calls = s.calls ∧
    (∀ addr, memRead t addr = memRead s addr) ∧
    (∀ f : StatusFlag, f ≠ .z → f ≠ .n → testFlag t.p f = testFlag s.p f) ∧
    ((∀ v, i ≠ .ldaImm v) → t.a = s.a ∧ t.p = s.p) ∧
    (∀ v, i = .ldaImm v → t.a = v ∧ t.p = setFlag (setFlag s.p .z (v == 0x00)) .n (v.getLsbD 7)) ∧
    (i ≠ .brk → t.status = s.status) ∧ (i = .brk → t.status = .halted)) ∧
  (∀ s t : State, ∀ r : OutOfBounds, s.status = .running → step s = .next t → t.status = .fault r →
    t.x = s.x ∧ t.y = s.y ∧ t.sp = s.sp ∧ t.image = s.image ∧
    ∀ f : StatusFlag, f ≠ .z → f ≠ .n → testFlag t.p f = testFlag s.p f)

/-- The frame of one step of a run, faulting or not: X, Y, SP, the flags other than Z and N, the image, every byte read
from it, and the host's queue are unchanged (spec/40_interpreter_loop.md section 2, spec/20_memory.md section 1). -/
def Obligations.RunningStepFrame : Prop :=
  ∀ s : State, s.status = .running → ∃ t, step s = .next t ∧
    t.x = s.x ∧ t.y = s.y ∧ t.sp = s.sp ∧ t.image = s.image ∧ t.calls = s.calls ∧
    (∀ addr, memRead t addr = memRead s addr) ∧
    (∀ f : StatusFlag, f ≠ .z → f ≠ .n → testFlag t.p f = testFlag s.p f) ∧
    (memRead s s.pc.toNat ≠ some 0xA9 → t.a = s.a ∧ t.p = s.p)

/-- spec/40_interpreter_loop.md section 3 (inferences the spec marks as its own): in a run, a step that does not fault
moves PC forward by exactly the length of the instruction there, without wrapping, and not past L. -/
def Obligations.PcAdvancesByInstructionLength : Prop :=
  ∀ s t : State, ∀ op : Byte, Inv s → s.status = .running → step s = .next t →
    memRead s s.pc.toNat = some op → (∀ r, t.status ≠ .fault r) →
    t.pc.toNat = s.pc.toNat + instrLength op ∧ t.pc.toNat ≤ s.imageLength

/-- R74: the complete list of events that set PC, over every step that answers a next state. In a run PC moves by 1 after
each byte read: not at all where the opcode byte is not there, by 2 for a `0xA9` with its operand, by 1 otherwise. Between
runs `reset()` and the start of a run set it to 0, and nothing else changes it. There is no control transfer. -/
def Obligations.OnlyListedEventsSetPc : Prop :=
  ∀ s t : State, step s = .next t →
    (s.status = .running ∧
      ((memRead s s.pc.toNat = none ∧ t.pc = s.pc) ∨
       (memRead s s.pc.toNat = some 0xA9 ∧ memRead s (s.pc.toNat + 1) = none ∧ t.pc = s.pc + 1) ∨
       (memRead s s.pc.toNat = some 0xA9 ∧ memRead s (s.pc.toNat + 1) ≠ none ∧ t.pc = s.pc + 2) ∨
       (∃ op, memRead s s.pc.toNat = some op ∧ op ≠ 0xA9 ∧ t.pc = s.pc + 1))) ∨
    (BetweenRuns s ∧
      ((s.calls = [] ∧ t.pc = s.pc) ∨
       ((∃ rest, s.calls = .reset :: rest) ∧ t.pc = 0x0000) ∨
       ((∃ program rest, s.calls = .interpret program :: rest) ∧ t.pc = 0x0000)))

/-- The invariant of the machine holds at power-on (spec/10_state.md section 6; log 14). -/
def Obligations.InvariantHoldsAtPowerOn : Prop :=
  Inv State.reset

/-- The invariant of the machine (spec/40_interpreter_loop.md section 3, spec/60_exceptions.md section 2,
spec/70_reset_and_hazards.md section 3): every step that answers a next state keeps it. The image stays canonical and of an
admitted length; PC stays at most L while a run is in progress; after a halt PC is one past a halt opcode; after a fault
the recorded address is PC, and it is L. The bound on the length is the spec's decision D1 (log 6), the registers at a
fault its decision D3 (log 18); that the image is still there after a halt is log 8, and the idle step is log 5. -/
def Obligations.EveryStepKeepsInvariant : Prop :=
  ∀ s t : State, Inv s → step s = .next t → Inv t

/-- spec/40_interpreter_loop.md section 3 and spec/70_reset_and_hazards.md section 5 (inferences the spec marks as its
own): every run ends, in Halted or in Fault, at most L - PC + 1 steps from any of its states (L + 1 from its start). -/
def Obligations.RunEndsWithinBound : Prop :=
  ∀ s : State, Inv s → s.status = .running → ∃ (n : Nat) (t : State),
    1 ≤ n ∧ n ≤ s.imageLength - s.pc.toNat + 1 ∧ core.run n s = .next t ∧ Ended t

/-- spec/40_interpreter_loop.md section 2 and spec/60_exceptions.md sections 1 and 2 (the registers at a fault are the
spec's decision D3, log 18): the machine agrees with the interpreter loop read straight from the bytes (`interpretFrom`
in Safety.lean). From any state of a run that meets the invariant, its steps end in exactly the state that reading gives for the bytes from PC on. -/
def Obligations.RunAgreesWithInterpreterLoop : Prop :=
  ∀ (s : State) (m : Memory), Inv s → s.status = .running → s.image = some m → ∃ n : Nat,
    1 ≤ n ∧ n ≤ m.length - s.pc.toNat + 1 ∧
    core.run n s = .next (interpretFrom (m.toBytes.drop s.pc.toNat) s)

/-- spec/40_interpreter_loop.md sections 1 and 2 and spec/70_reset_and_hazards.md section 3: a whole call of `interpret`,
from the host's call to the end of the run. It sets PC to 0, keeps the other registers (the reading D17 of log 14, an
inference the spec marks as its own), and then does what the interpreter loop does on the program's bytes. -/
def Obligations.InterpretCallRunsToItsEnd : Prop :=
  ∀ (s : State) (program : List Byte) (rest : List HostCall), BetweenRuns s → s.calls = .interpret program :: rest →
    program.length ≤ 65535 → ∃ (n : Nat) (t : State), n ≤ program.length + 2 ∧ core.run n s = .next t ∧ Ended t ∧
      t = interpretFrom program
        { s with image := some (Memory.ofBytes program), pc := 0x0000, status := .running, calls := rest }

/-- spec/10_state.md sections 1 and 2 and spec/40_interpreter_loop.md section 2: no instruction reads X, Y, SP, P or A.
Two states of runs with the same image and PC go on to the same image, PC and status, whatever those registers hold,
and to the same A where their A was the same. -/
def Obligations.RegistersDoNotInfluenceControl : Prop :=
  ∀ s s' : State, s.status = .running → s'.status = .running → s.image = s'.image → s.pc = s'.pc →
    ∃ t t', step s = .next t ∧ step s' = .next t' ∧ t.image = t'.image ∧ t.pc = t'.pc ∧ t.status = t'.status ∧
      (s.a = s'.a → t.a = t'.a)

/-! ### spec/41, 42, 43: the instructions -/

/-- R75: `BRK`. The single byte `0x00` decodes to it; its effect in every state is PC + 1 and the end of the run in
Halted, and nothing else; and so a step of a run with that byte at PC does just this and raises nothing. -/
def Obligations.BrkEndsRun : Prop :=
  encode .brk = [0x00] ∧ (∀ rest : List Byte, decode (0x00 :: rest) = .ok (.brk, rest)) ∧
  (∀ s : State, exec .brk s = .next { s with pc := s.pc + 1, status := .halted }) ∧
  (∀ (s : State) (m : Memory), s.status = .running → s.image = some m → m.read s.pc.toNat = some 0x00 →
    step s = .next { s with pc := s.pc + 1, status := .halted })

/-- R76: `LDA #imm8`. The bytes `0xA9 imm8` decode to it; its effect in every state is PC + 2, A the operand, Z and N
from the operand, every other flag and everything else unchanged; a step of a run with both bytes at PC does just this;
and where the operand's index is at or past L the step takes `OutOfBounds(operand, PC)` with PC past the opcode byte and
A, P unwritten. -/
def Obligations.LdaImmLoadsAccumulator : Prop :=
  (∀ v : Byte, encode (.ldaImm v) = [0xA9, v] ∧ ∀ rest, decode (0xA9 :: v :: rest) = .ok (.ldaImm v, rest)) ∧
  (∀ (v : Byte) (s : State), ∃ p' : Byte,
    exec (.ldaImm v) s = .next { s with pc := s.pc + 2, a := v, p := p' } ∧
    testFlag p' .z = (v == 0x00) ∧ testFlag p' .n = v.getLsbD 7 ∧
    (∀ f : StatusFlag, f ≠ .z → f ≠ .n → testFlag p' f = testFlag s.p f) ∧ p' = setZN s.p v) ∧
  (∀ (s : State) (m : Memory) (v : Byte), s.status = .running → s.image = some m →
    m.read s.pc.toNat = some 0xA9 → m.read (s.pc.toNat + 1) = some v →
    step s = .next { s with pc := s.pc + 2, a := v, p := setZN s.p v }) ∧
  (∀ (s : State) (m : Memory), s.status = .running → s.image = some m → m.wf = true →
    m.read s.pc.toNat = some 0xA9 → m.length ≤ s.pc.toNat + 1 →
    step s = .next { s with pc := s.pc + 1, status := .fault { kind := .operand, addr := s.pc + 1 } })

/-- R77, for each of the 254 instructions `unimp01` to `unimpA8` and `unimpAA` to `unimpFF` (every instruction whose
opcode byte is neither `0x00` nor `0xA9`): it is the single byte, which decodes to it whatever follows; its effect in
every state is PC + 1 and nothing else; and so a step of a run with such a byte at PC does just this, raises nothing,
and the run continues. -/
def Obligations.UnimplementedOpcodesOnlyAdvancePc : Prop :=
  (∀ (i : Instr) (s : State), i.opcode ≠ 0x00 → i.opcode ≠ 0xA9 →
    encode i = [i.opcode] ∧ (∀ rest, decode (i.opcode :: rest) = .ok (i, rest)) ∧
    exec i s = .next { s with pc := s.pc + 1 }) ∧
  (∀ (s : State) (m : Memory) (op : Byte), s.status = .running → s.image = some m → m.read s.pc.toNat = some op →
    op ≠ 0x00 → op ≠ 0xA9 → step s = .next { s with pc := s.pc + 1 })

/-! ### spec/60_exceptions.md: the exception -/

/-- R81: the fetch of an opcode byte at or past L takes `OutOfBounds(opcode, PC)`: the status and the record alone
change. It arises exactly there; and in a run PC is then L. -/
def Obligations.OpcodeFetchPastEndFaults : Prop :=
  ∀ (s : State) (m : Memory), s.status = .running → s.image = some m → m.wf = true →
    (m.length ≤ s.pc.toNat → step s = .next { s with status := .fault { kind := .opcode, addr := s.pc } }) ∧
    (s.pc.toNat < m.length → ∀ t addr, step s = .next t → t.status ≠ .fault { kind := .opcode, addr := addr }) ∧
    (Inv s → m.length ≤ s.pc.toNat → s.pc.toNat = m.length)

/-- R82: the operand read of `0xA9` at or past L takes `OutOfBounds(operand, PC)` with PC one past the opcode byte and
nothing else changed. It arises exactly when a `0xA9` is fetched as an opcode at index L-1, and then PC and the recorded
address are L. -/
def Obligations.MissingOperandFaults : Prop :=
  ∀ (s : State) (m : Memory), s.status = .running → s.image = some m → ImageAdmitted m →
    (m.read s.pc.toNat = some 0xA9 → s.pc.toNat + 1 = m.length →
      step s = .next { s with pc := s.pc + 1, status := .fault { kind := .operand, addr := s.pc + 1 } } ∧
      (s.pc + 1).toNat = m.length) ∧
    (∀ t addr, step s = .next t → t.status = .fault { kind := .operand, addr := addr } →
      m.read s.pc.toNat = some 0xA9 ∧ s.pc.toNat + 1 = m.length)

/-- spec/60_exceptions.md section 2 (the register values are the spec's decision D3, log 18): in every state of a run, a
step that takes the exception writes no register but PC, moves PC by at most the opcode byte, and records PC; and where
the state meets the invariant it leaves PC = L. -/
def Obligations.FaultKeepsRegisters : Prop :=
  ∀ s t : State, ∀ r : OutOfBounds, s.status = .running → step s = .next t → t.status = .fault r →
    t.a = s.a ∧ t.x = s.x ∧ t.y = s.y ∧ t.sp = s.sp ∧ t.p = s.p ∧ t.image = s.image ∧
    (t.pc = s.pc ∧ r.kind = .opcode ∨ t.pc = s.pc + 1 ∧ r.kind = .operand) ∧
    r.addr = t.pc ∧ (Inv s → t.pc.toNat = s.imageLength)

/-- spec/60_exceptions.md section 2 (the spec's decision D4; log 1): Fault is terminal. Whatever calls the host has
queued, every run of steps from there stops with the recorded exception, and the host has no read. -/
def Obligations.FaultIsTerminal : Prop :=
  ∀ (s : State) (r : OutOfBounds), s.status = .fault r →
    (∀ n : Nat, core.run (n + 1) s = .fault (.outOfBounds r.kind r.addr)) ∧ observe s = none

/-- spec/60_exceptions.md sections 1 and 2 and spec/20_memory.md section 1: where the machine stops. It faults exactly in
status Fault (the spec's decision D4, log 1), and it refuses exactly the start of a run with more than 65535 bytes (the
spec's decision D1, log 6). That it does not stop between runs with no call queued, but idles, is the model's choice
(log 5). -/
def Obligations.MachineStopsOnlyWhereStated : Prop :=
  ∀ s : State,
    ((∃ f, step s = .fault f) ↔ ∃ r, s.status = .fault r) ∧
    (∀ f, step s = .refused f → f = .imageTooLong) ∧
    ((∃ f, step s = .refused f) ↔ BetweenRuns s ∧ ∃ program rest, s.calls = .interpret program :: rest ∧
      65535 < program.length)

/-! ### spec/70_reset_and_hazards.md: the host protocol -/

/-- spec/70_reset_and_hazards.md section 3 (the spec's decision D6; log 7): the host has no move while a run is in
progress. A step of a run does not depend on the calls the host has queued, and leaves them queued. -/
def Obligations.HostHasNoMoveDuringRun : Prop :=
  ∀ s : State, s.status = .running → ∃ t, step s = .next t ∧ t.calls = s.calls ∧
    ∀ cs : List HostCall, step { s with calls := cs } = .next { t with calls := cs }

/-- spec/60_exceptions.md section 4 (no power states; the spec's decisions D13 and D23): between runs, with no call
queued, the core is idle and everything keeps its value for any number of steps (log 5). -/
def Obligations.CoreIdlesBetweenRuns : Prop :=
  ∀ (s : State) (n : Nat), BetweenRuns s → s.calls = [] → core.run n s = .next s
end

