-- ==== Sys2Proof/Laws/Decode.lean ====
section
/-! SUPPORT. The opcode map and the decoder, said once each: what entry an opcode byte has, and what `decode` gives for
each shape of byte list (spec/30_encoding.md R53, R56). -/
namespace Sys2Proof

/-- The entry of `0x00` is the halt instruction. -/
@[simp] theorem opcodeEntry_brk : opcodeEntry 0x00#8 = .implied .brk := rfl

/-- The entry of `0xA9` is the immediate format. -/
@[simp] theorem opcodeEntry_ldaImm : opcodeEntry 0xA9#8 = .immediate := rfl

/-- Which entries are one-byte instructions, and that each is filed under its own opcode byte: checked over all 256
bytes. -/
theorem opcodeEntry_cases (op : Byte) :
    (op = 0xA9 ∧ opcodeEntry op = .immediate) ∨
    (op ≠ 0xA9 ∧ ∃ i : Instr, opcodeEntry op = .implied i ∧ i.opcode = op ∧ i.operandBytes = []) := by
  have key : ∀ b : Byte, (b == 0xA9) = (opcodeEntry b == .immediate) ∧
      (b == 0xA9) = !(match opcodeEntry b with
        | .immediate => false
        | .implied i => i.opcode == b && i.operandBytes.isEmpty) := by decide
  obtain ⟨h1, h2⟩ := key op
  cases h : opcodeEntry op with
  | immediate => exact .inl ⟨by simpa [h] using h1, rfl⟩
  | implied i =>
    have h9 : op ≠ 0xA9 := by simpa [h] using h1
    have hb : (op == 0xA9#8) = false := by simpa using h9
    have hi : i.opcode = op ∧ i.operandBytes = [] := by simpa [h, hb] using h2
    exact .inr ⟨h9, i, rfl, hi⟩

@[simp] theorem decode_nil : decode [] = .error .noOpcode := rfl

/-- A `0xA9` with no byte after it lacks its operand. -/
@[simp] theorem decode_truncated : decode [0xA9#8] = .error .noOperand := rfl

/-- The operand byte of `0xA9` may have any value; it is data, never decoded (R54). -/
@[simp] theorem decode_ldaImm (imm8 : Byte) (rest : List Byte) :
    decode (0xA9#8 :: imm8 :: rest) = .ok (.ldaImm imm8, rest) := rfl

@[simp] theorem decode_brk (rest : List Byte) : decode (0x00#8 :: rest) = .ok (.brk, rest) := rfl

/-- Every byte but `0xA9` is an instruction of one byte, whatever follows it. -/
theorem decode_implied (op : Byte) (h : op ≠ 0xA9) :
    ∃ i : Instr, i.opcode = op ∧ i.operandBytes = [] ∧ ∀ rest, decode (op :: rest) = .ok (i, rest) := by
  rcases opcodeEntry_cases op with ⟨h', -⟩ | ⟨-, i, hi, hop, hb⟩
  · exact absurd h' h
  · exact ⟨i, hop, hb, fun rest => by simp [decode, hi]⟩

end Sys2Proof
end

