-- ==== Sys2Proof/Laws/Flags.lean ====
section
/-! SUPPORT. What the flag primitives do to single bits (spec/10_state.md R18 to R20). -/
namespace Sys2Proof.Machine

theorem StatusFlag.position_lt (f : StatusFlag) : f.position < 8 := by cases f <;> decide

/-- Two flags at one position are one flag. -/
theorem StatusFlag.position_injective {f g : StatusFlag} (h : f.position = g.position) : f = g := by
  cases f <;> cases g <;> first | rfl | exact absurd h (by decide)

/-- The mask of a flag is the single bit at its position. -/
theorem StatusFlag.mask_getLsbD (f : StatusFlag) (k : Nat) : f.mask.getLsbD k = decide (k = f.position) := by
  by_cases hk : k < 8
  · have key : ∀ g : StatusFlag, ∀ j < 8, g.mask.getLsbD j = decide (j = g.position) := by
      intro g; cases g <;> decide
    exact key f k hk
  · have := f.position_lt
    rw [BitVec.getLsbD_of_ge _ _ (by omega)]
    simp; omega

/-- Testing a flag reads the bit at its position. -/
theorem testFlag_eq_getLsbD (p : Byte) (f : StatusFlag) : testFlag p f = p.getLsbD f.position := by
  have key : ∀ g : StatusFlag, ∀ q : Byte, testFlag q g = q.getLsbD g.position := by
    intro g; cases g <;> decide
  exact key f p

theorem insertFlag_getLsbD (p : Byte) (f : StatusFlag) (k : Nat) :
    (insertFlag p f).getLsbD k = (p.getLsbD k || decide (k = f.position)) := by
  simp [insertFlag, StatusFlag.mask_getLsbD]

theorem removeFlag_getLsbD (p : Byte) (f : StatusFlag) (k : Nat) :
    (removeFlag p f).getLsbD k = (p.getLsbD k && !decide (k = f.position)) := by
  by_cases hk : k < 8
  · rw [removeFlag, BitVec.getLsbD_and, BitVec.getLsbD_not, StatusFlag.mask_getLsbD]
    simp [hk]
  · rw [BitVec.getLsbD_of_ge _ _ (by omega), BitVec.getLsbD_of_ge _ _ (by omega)]
    rfl

/-- `setFlag` writes the one bit and keeps every other. -/
theorem setFlag_getLsbD (p : Byte) (f : StatusFlag) (cond : Bool) (k : Nat) :
    (setFlag p f cond).getLsbD k = if k = f.position then cond else p.getLsbD k := by
  cases cond <;> by_cases h : k = f.position <;> simp [setFlag, insertFlag_getLsbD, removeFlag_getLsbD, h]

/-- What `SetZN` does to each bit of `P`. -/
theorem setZN_getLsbD (p v : Byte) (k : Nat) :
    (setZN p v).getLsbD k = if k = 7 then v.getLsbD 7 else if k = 1 then v == 0 else p.getLsbD k := by
  rw [setZN, setFlag_getLsbD, setFlag_getLsbD]
  rfl

end Sys2Proof.Machine
end

