-- ==== Sys2Proof/Laws/Memory.lean ====
section
/-! SUPPORT. The image as memory: reading it, its canonical form, and that every operation that makes an image keeps that
form (spec/20_memory.md R30, R31, R38). The one such operation is `Memory.ofBytes`; nothing writes an image (R32). -/
namespace Sys2Proof.Machine

/-- A program is well-formed exactly when a run may have it as its image (R34). -/
@[simp] theorem programWellFormed_iff (program : List Byte) :
    programWellFormed program = true ↔ program.length ≤ 65535 := by
  exact decide_eq_true_iff

theorem cellsFrom_length (k : Nat) (program : List Byte) : (cellsFrom k program).length = program.length := by
  induction program generalizing k with
  | nil => rfl
  | cons b rest ih => simp [cellsFrom, ih]

theorem cellsFrom_wf (k : Nat) (program : List Byte) : wfFrom k (cellsFrom k program) = true := by
  induction program generalizing k with
  | nil => rfl
  | cons b rest ih => simp [cellsFrom, wfFrom, ih]

theorem cellsFrom_snd (k : Nat) (program : List Byte) : (cellsFrom k program).map Prod.snd = program := by
  induction program generalizing k with
  | nil => rfl
  | cons b rest ih => simp [cellsFrom, ih]

theorem lookup_cellsFrom_below (k addr : Nat) (program : List Byte) (h : addr < k) :
    lookupCell (cellsFrom k program) addr = none := by
  induction program generalizing k with
  | nil => rfl
  | cons b rest ih =>
    have hne : addr ≠ k := by omega
    simp [cellsFrom, lookupCell, hne, ih (k + 1) (by omega)]

theorem lookup_cellsFrom (k j : Nat) (program : List Byte) :
    lookupCell (cellsFrom k program) (k + j) = program[j]? := by
  induction program generalizing k j with
  | nil => rfl
  | cons b rest ih =>
    cases j with
    | zero => simp [cellsFrom, lookupCell]
    | succ j =>
      have hne : k + (j + 1) ≠ k := by omega
      have := ih (k + 1) j
      rw [show k + 1 + j = k + (j + 1) by omega] at this
      simp [cellsFrom, lookupCell, this]

/-- Canonical cells are the cells of their own bytes. -/
theorem cellsFrom_of_wf (k : Nat) (cells : List Host.Cell) (h : wfFrom k cells = true) :
    cellsFrom k (cells.map Prod.snd) = cells := by
  induction cells generalizing k with
  | nil => rfl
  | cons c rest ih =>
    obtain ⟨addr, v⟩ := c
    simp only [wfFrom, Bool.and_eq_true, beq_iff_eq] at h
    obtain ⟨rfl, hrest⟩ := h
    simp [cellsFrom, ih _ hrest]

/-- The image of a byte sequence is in canonical form. -/
@[simp] theorem Memory.ofBytes_wf (program : List Byte) : (Memory.ofBytes program).wf = true :=
  cellsFrom_wf 0 program

@[simp] theorem Memory.ofBytes_length (program : List Byte) : (Memory.ofBytes program).length = program.length :=
  cellsFrom_length 0 program

/-- Reading the image of a byte sequence gives the byte at that index, and nothing from its length on (R31). -/
@[simp] theorem Memory.ofBytes_read (program : List Byte) (addr : Nat) :
    (Memory.ofBytes program).read addr = program[addr]? := by
  have := lookup_cellsFrom 0 addr program
  simpa [Memory.read, Memory.ofBytes] using this

@[simp] theorem Memory.toBytes_ofBytes (program : List Byte) : (Memory.ofBytes program).toBytes = program :=
  cellsFrom_snd 0 program

theorem Memory.toBytes_length (m : Memory) : m.toBytes.length = m.length := by
  simp [Memory.toBytes, Memory.length]

/-- A canonical image is the image of its own bytes: canonical images with equal bytes are equal data. -/
theorem Memory.ofBytes_toBytes (m : Memory) (h : m.wf = true) : Memory.ofBytes m.toBytes = m := by
  cases m
  simp only [Memory.ofBytes, Memory.toBytes, Memory.mk.injEq]
  exact cellsFrom_of_wf 0 _ h

/-- On a canonical image a read is a list access, so it answers exactly below `L` (R31). -/
theorem Memory.read_of_wf (m : Memory) (h : m.wf = true) (addr : Nat) : m.read addr = m.toBytes[addr]? := by
  conv => lhs; rw [← Memory.ofBytes_toBytes m h]
  simp

theorem Memory.read_eq_none_iff (m : Memory) (h : m.wf = true) (addr : Nat) :
    m.read addr = none ↔ m.length ≤ addr := by
  rw [Memory.read_of_wf m h, List.getElem?_eq_none_iff, Memory.toBytes_length]

end Sys2Proof.Machine
end

