-- ==== Sys2Proof/Laws/State.lean ====
section
/-! SUPPORT. What each field of the state is after each named update: one lemma per field per update, true by
definition, so that no later proof unfolds a record update. -/
namespace Sys2Proof.Machine

/-! ### advance -/

@[simp] theorem State.advance_a (s : State) (n : Nat) :
    (s.advance n).a = s.a := rfl
@[simp] theorem State.advance_x (s : State) (n : Nat) :
    (s.advance n).x = s.x := rfl
@[simp] theorem State.advance_y (s : State) (n : Nat) :
    (s.advance n).y = s.y := rfl
@[simp] theorem State.advance_sp (s : State) (n : Nat) :
    (s.advance n).sp = s.sp := rfl
@[simp] theorem State.advance_p (s : State) (n : Nat) :
    (s.advance n).p = s.p := rfl
@[simp] theorem State.advance_pc (s : State) (n : Nat) :
    (s.advance n).pc = s.pc + BitVec.ofNat 16 n := rfl
@[simp] theorem State.advance_status (s : State) (n : Nat) :
    (s.advance n).status = s.status := rfl
@[simp] theorem State.advance_image (s : State) (n : Nat) :
    (s.advance n).image = s.image := rfl
@[simp] theorem State.advance_calls (s : State) (n : Nat) :
    (s.advance n).calls = s.calls := rfl

/-! ### setA -/

@[simp] theorem State.setA_a (s : State) (v : Byte) :
    (s.setA v).a = v := rfl
@[simp] theorem State.setA_x (s : State) (v : Byte) :
    (s.setA v).x = s.x := rfl
@[simp] theorem State.setA_y (s : State) (v : Byte) :
    (s.setA v).y = s.y := rfl
@[simp] theorem State.setA_sp (s : State) (v : Byte) :
    (s.setA v).sp = s.sp := rfl
@[simp] theorem State.setA_p (s : State) (v : Byte) :
    (s.setA v).p = s.p := rfl
@[simp] theorem State.setA_pc (s : State) (v : Byte) :
    (s.setA v).pc = s.pc := rfl
@[simp] theorem State.setA_status (s : State) (v : Byte) :
    (s.setA v).status = s.status := rfl
@[simp] theorem State.setA_image (s : State) (v : Byte) :
    (s.setA v).image = s.image := rfl
@[simp] theorem State.setA_calls (s : State) (v : Byte) :
    (s.setA v).calls = s.calls := rfl

/-! ### setP -/

@[simp] theorem State.setP_a (s : State) (v : Byte) :
    (s.setP v).a = s.a := rfl
@[simp] theorem State.setP_x (s : State) (v : Byte) :
    (s.setP v).x = s.x := rfl
@[simp] theorem State.setP_y (s : State) (v : Byte) :
    (s.setP v).y = s.y := rfl
@[simp] theorem State.setP_sp (s : State) (v : Byte) :
    (s.setP v).sp = s.sp := rfl
@[simp] theorem State.setP_p (s : State) (v : Byte) :
    (s.setP v).p = v := rfl
@[simp] theorem State.setP_pc (s : State) (v : Byte) :
    (s.setP v).pc = s.pc := rfl
@[simp] theorem State.setP_status (s : State) (v : Byte) :
    (s.setP v).status = s.status := rfl
@[simp] theorem State.setP_image (s : State) (v : Byte) :
    (s.setP v).image = s.image := rfl
@[simp] theorem State.setP_calls (s : State) (v : Byte) :
    (s.setP v).calls = s.calls := rfl

/-! ### halt -/

@[simp] theorem State.halt_a (s : State) :
    (s.halt).a = s.a := rfl
@[simp] theorem State.halt_x (s : State) :
    (s.halt).x = s.x := rfl
@[simp] theorem State.halt_y (s : State) :
    (s.halt).y = s.y := rfl
@[simp] theorem State.halt_sp (s : State) :
    (s.halt).sp = s.sp := rfl
@[simp] theorem State.halt_p (s : State) :
    (s.halt).p = s.p := rfl
@[simp] theorem State.halt_pc (s : State) :
    (s.halt).pc = s.pc := rfl
@[simp] theorem State.halt_status (s : State) :
    (s.halt).status = .halted := rfl
@[simp] theorem State.halt_image (s : State) :
    (s.halt).image = s.image := rfl
@[simp] theorem State.halt_calls (s : State) :
    (s.halt).calls = s.calls := rfl

/-! ### loadA -/

@[simp] theorem State.loadA_a (s : State) (v : Byte) :
    (s.loadA v).a = v := rfl
@[simp] theorem State.loadA_x (s : State) (v : Byte) :
    (s.loadA v).x = s.x := rfl
@[simp] theorem State.loadA_y (s : State) (v : Byte) :
    (s.loadA v).y = s.y := rfl
@[simp] theorem State.loadA_sp (s : State) (v : Byte) :
    (s.loadA v).sp = s.sp := rfl
@[simp] theorem State.loadA_p (s : State) (v : Byte) :
    (s.loadA v).p = setZN s.p v := rfl
@[simp] theorem State.loadA_pc (s : State) (v : Byte) :
    (s.loadA v).pc = s.pc := rfl
@[simp] theorem State.loadA_status (s : State) (v : Byte) :
    (s.loadA v).status = s.status := rfl
@[simp] theorem State.loadA_image (s : State) (v : Byte) :
    (s.loadA v).image = s.image := rfl
@[simp] theorem State.loadA_calls (s : State) (v : Byte) :
    (s.loadA v).calls = s.calls := rfl

/-! ### raiseOutOfBounds -/

@[simp] theorem raiseOutOfBounds_a (kind : AccessKind) (s : State) :
    (raiseOutOfBounds kind s).a = s.a := rfl
@[simp] theorem raiseOutOfBounds_x (kind : AccessKind) (s : State) :
    (raiseOutOfBounds kind s).x = s.x := rfl
@[simp] theorem raiseOutOfBounds_y (kind : AccessKind) (s : State) :
    (raiseOutOfBounds kind s).y = s.y := rfl
@[simp] theorem raiseOutOfBounds_sp (kind : AccessKind) (s : State) :
    (raiseOutOfBounds kind s).sp = s.sp := rfl
@[simp] theorem raiseOutOfBounds_p (kind : AccessKind) (s : State) :
    (raiseOutOfBounds kind s).p = s.p := rfl
@[simp] theorem raiseOutOfBounds_pc (kind : AccessKind) (s : State) :
    (raiseOutOfBounds kind s).pc = s.pc := rfl
@[simp] theorem raiseOutOfBounds_status (kind : AccessKind) (s : State) :
    (raiseOutOfBounds kind s).status = .fault { kind := kind, addr := s.pc } := rfl
@[simp] theorem raiseOutOfBounds_image (kind : AccessKind) (s : State) :
    (raiseOutOfBounds kind s).image = s.image := rfl
@[simp] theorem raiseOutOfBounds_calls (kind : AccessKind) (s : State) :
    (raiseOutOfBounds kind s).calls = s.calls := rfl

/-! ### resetCore -/

@[simp] theorem resetCore_a (s : State) :
    (resetCore s).a = 0x00 := rfl
@[simp] theorem resetCore_x (s : State) :
    (resetCore s).x = 0x00 := rfl
@[simp] theorem resetCore_y (s : State) :
    (resetCore s).y = 0x00 := rfl
@[simp] theorem resetCore_sp (s : State) :
    (resetCore s).sp = 0x00 := rfl
@[simp] theorem resetCore_p (s : State) :
    (resetCore s).p = 0x24 := rfl
@[simp] theorem resetCore_pc (s : State) :
    (resetCore s).pc = 0x0000 := rfl
@[simp] theorem resetCore_status (s : State) :
    (resetCore s).status = .idle := rfl
@[simp] theorem resetCore_image (s : State) :
    (resetCore s).image = none := rfl
@[simp] theorem resetCore_calls (s : State) :
    (resetCore s).calls = s.calls := rfl

/-! ### startRun -/

@[simp] theorem startRun_a (program : List Byte) (s : State) :
    (startRun program s).a = s.a := rfl
@[simp] theorem startRun_x (program : List Byte) (s : State) :
    (startRun program s).x = s.x := rfl
@[simp] theorem startRun_y (program : List Byte) (s : State) :
    (startRun program s).y = s.y := rfl
@[simp] theorem startRun_sp (program : List Byte) (s : State) :
    (startRun program s).sp = s.sp := rfl
@[simp] theorem startRun_p (program : List Byte) (s : State) :
    (startRun program s).p = s.p := rfl
@[simp] theorem startRun_pc (program : List Byte) (s : State) :
    (startRun program s).pc = 0 := rfl
@[simp] theorem startRun_status (program : List Byte) (s : State) :
    (startRun program s).status = .running := rfl
@[simp] theorem startRun_image (program : List Byte) (s : State) :
    (startRun program s).image = some (Memory.ofBytes program) := rfl
@[simp] theorem startRun_calls (program : List Byte) (s : State) :
    (startRun program s).calls = s.calls := rfl

/-! ### The program counter as a natural number -/

/-- Advancing does not wrap below 65536 (spec/40_interpreter_loop.md R72). -/
theorem State.advance_pc_toNat (s : State) (n : Nat) (h : s.pc.toNat + n < 65536) :
    (s.advance n).pc.toNat = s.pc.toNat + n := by
  rw [State.advance_pc, BitVec.toNat_add, BitVec.toNat_ofNat]
  omega

/-! ### The views of the state -/

@[simp] theorem State.advance_memRead (s : State) (n : Nat) (k : Nat) :
    memRead (s.advance n) k = memRead s k := rfl
@[simp] theorem State.advance_imageLength (s : State) (n : Nat) :
    (s.advance n).imageLength = s.imageLength := rfl
@[simp] theorem State.halt_memRead (s : State) (k : Nat) :
    memRead (s.halt) k = memRead s k := rfl
@[simp] theorem State.halt_imageLength (s : State) :
    (s.halt).imageLength = s.imageLength := rfl
@[simp] theorem State.loadA_memRead (s : State) (v : Byte) (k : Nat) :
    memRead (s.loadA v) k = memRead s k := rfl
@[simp] theorem State.loadA_imageLength (s : State) (v : Byte) :
    (s.loadA v).imageLength = s.imageLength := rfl
@[simp] theorem raiseOutOfBounds_memRead (kind : AccessKind) (s : State) (k : Nat) :
    memRead (raiseOutOfBounds kind s) k = memRead s k := rfl
@[simp] theorem raiseOutOfBounds_imageLength (kind : AccessKind) (s : State) :
    (raiseOutOfBounds kind s).imageLength = s.imageLength := rfl

end Sys2Proof.Machine
end

