-- ==== Sys2Proof/Laws/Step.lean ====
section
/-! SUPPORT. What each shared operation and each step can do, said once: the provers cite these instead of unfolding the
operations. -/
namespace Sys2Proof.Machine

/-! ### The meanings -/

theorem exec_brk (s : State) : exec .brk s = .next (s.advance 1).halt := rfl

theorem exec_ldaImm (imm8 : Byte) (s : State) :
    exec (.ldaImm imm8) s = .next (((s.advance 1).advance 1).loadA imm8) := rfl

/-- Every instruction whose opcode byte is neither `0x00` nor `0xA9` is the shared one-byte no-op (R77). -/
theorem exec_unimplemented (i : Instr) (h0 : i.opcode ≠ 0x00) (h9 : i.opcode ≠ 0xA9) (s : State) :
    exec i s = .next (s.advance 1) := by
  cases i <;> first | rfl | exact absurd rfl h0 | exact absurd rfl h9

/-! ### Fetch -/

/-- Everything a fetch can do, by the bytes at `PC` (R66, R81, R82). -/
theorem fetch_cases (s : State) :
    (memRead s s.pc.toNat = none ∧ fetch s = .error (raiseOutOfBounds .opcode s)) ∨
    (memRead s s.pc.toNat = some 0xA9 ∧ memRead s (s.pc.toNat + 1) = none ∧
      fetch s = .error (raiseOutOfBounds .operand (s.advance 1))) ∨
    (∃ imm8, memRead s s.pc.toNat = some 0xA9 ∧ memRead s (s.pc.toNat + 1) = some imm8 ∧
      fetch s = .ok (.ldaImm imm8)) ∨
    (∃ op i, memRead s s.pc.toNat = some op ∧ op ≠ 0xA9 ∧ i.opcode = op ∧ fetch s = .ok i) := by
  cases h : memRead s s.pc.toNat with
  | none => exact .inl ⟨rfl, by simp [fetch, instrBytes, opcodeIndex, h]⟩
  | some op =>
    refine .inr ?_
    by_cases h9 : op = 0xA9
    · subst h9
      cases h' : memRead s (s.pc.toNat + 1) with
      | none => exact .inl ⟨rfl, rfl, by simp [fetch, instrBytes, opcodeIndex, operandIndex, h, h']⟩
      | some v => exact .inr (.inl ⟨v, rfl, rfl, by simp [fetch, instrBytes, opcodeIndex, operandIndex, h, h']⟩)
    · obtain ⟨i, hop, -, hdec⟩ := decode_implied op h9
      refine .inr (.inr ⟨op, i, rfl, h9, hop, ?_⟩)
      cases h' : memRead s (s.pc.toNat + 1) <;>
        simp [fetch, instrBytes, opcodeIndex, operandIndex, h, h', hdec]

/-! ### A step of a run -/

/-- Everything a step can do while a run is in progress, by the bytes at `PC` (spec/40_interpreter_loop.md R66 to R69). -/
theorem step_running_cases (s : State) (hr : s.status = .running) :
    (memRead s s.pc.toNat = none ∧ step s = .next (raiseOutOfBounds .opcode s)) ∨
    (memRead s s.pc.toNat = some 0xA9 ∧ memRead s (s.pc.toNat + 1) = none ∧
      step s = .next (raiseOutOfBounds .operand (s.advance 1))) ∨
    (∃ imm8, memRead s s.pc.toNat = some 0xA9 ∧ memRead s (s.pc.toNat + 1) = some imm8 ∧
      step s = .next (((s.advance 1).advance 1).loadA imm8)) ∨
    (memRead s s.pc.toNat = some 0x00 ∧ step s = .next (s.advance 1).halt) ∨
    (∃ op, memRead s s.pc.toNat = some op ∧ op ≠ 0x00 ∧ op ≠ 0xA9 ∧ step s = .next (s.advance 1)) := by
  rcases fetch_cases s with ⟨h, hf⟩ | ⟨h, h', hf⟩ | ⟨v, h, h', hf⟩ | ⟨op, i, h, h9, hop, hf⟩
  · exact .inl ⟨h, by simp [step, hr, hf]⟩
  · exact .inr (.inl ⟨h, h', by simp [step, hr, hf]⟩)
  · exact .inr (.inr (.inl ⟨v, h, h', by simp [step, hr, hf, exec_ldaImm]⟩))
  · refine .inr (.inr (.inr ?_))
    by_cases h0 : op = 0x00
    · have hb : fetch s = .ok .brk := by
        subst h0
        cases h' : memRead s (s.pc.toNat + 1) <;>
          simp [fetch, instrBytes, opcodeIndex, operandIndex, h, h']
      exact .inl ⟨h0 ▸ h, by simp [step, hr, hb, exec_brk]⟩
    · exact .inr ⟨op, h, h0, h9, by
        simp [step, hr, hf, exec_unimplemented i (hop ▸ h0) (hop ▸ h9)]⟩

/-! ### A step between runs, and after a fault -/

theorem step_fault (s : State) (r : OutOfBounds) (h : s.status = .fault r) :
    step s = .fault (.outOfBounds r.kind r.addr) := by
  simp [step, h]

/-- Between runs the step is the host's turn (R106). -/
theorem step_betweenRuns (s : State) (h : s.status = .idle ∨ s.status = .halted) : step s = betweenRuns s := by
  rcases h with h | h <;> simp [step, h]

/-- A call of `interpret` with an admitted image starts the run (R65). -/
theorem betweenRuns_interpret {s : State} {program : List Byte} {rest : List HostCall}
    (hc : s.calls = .interpret program :: rest) (hl : program.length ≤ 65535) :
    betweenRuns s = .next (startRun program { s with calls := rest }) := by
  rw [betweenRuns, hc]
  exact if_pos ((programWellFormed_iff program).2 hl)

/-- A call of `interpret` with a longer image is refused (R34). -/
theorem betweenRuns_interpret_refused {s : State} {program : List Byte} {rest : List HostCall}
    (hc : s.calls = .interpret program :: rest) (hl : 65535 < program.length) :
    betweenRuns s = .refused .imageTooLong := by
  rw [betweenRuns, hc]
  exact if_neg (fun h => by have := (programWellFormed_iff program).1 h; omega)

/-- A call of `reset()` (R101). -/
theorem betweenRuns_reset {s : State} {rest : List HostCall} (hc : s.calls = .reset :: rest) :
    betweenRuns s = .next { State.reset with calls := rest } := by
  rw [betweenRuns, hc]
  rfl

/-- Everything the host's turn can do, where it answers a next state (R106). -/
theorem betweenRuns_next_cases {s t : State} (h : betweenRuns s = .next t) :
    (s.calls = [] ∧ t = s) ∨
    (∃ rest, s.calls = .reset :: rest ∧ t = { State.reset with calls := rest }) ∨
    (∃ program rest, s.calls = .interpret program :: rest ∧ program.length ≤ 65535 ∧
      t = startRun program { s with calls := rest }) := by
  unfold betweenRuns at h
  split at h
  · rename_i hc
    cases h
    exact .inl ⟨hc, rfl⟩
  · rename_i c rest hc
    cases c with
    | reset =>
      cases h
      exact .inr (.inl ⟨rest, hc, rfl⟩)
    | interpret program =>
      simp only [hostCall] at h
      split at h
      · rename_i hl
        cases h
        exact .inr (.inr ⟨program, rest, hc, (programWellFormed_iff program).1 hl, rfl⟩)
      · cases h

/-- Everything a step can do in a state that answers a next state, by the run status (R106). -/
theorem step_next_cases {s t : State} (h : step s = .next t) :
    s.status = .running ∨ ((s.status = .idle ∨ s.status = .halted) ∧ betweenRuns s = .next t) := by
  cases hs : s.status with
  | running => exact .inl rfl
  | idle => exact .inr ⟨.inl rfl, by rw [← step_betweenRuns s (.inl hs), h]⟩
  | halted => exact .inr ⟨.inr rfl, by rw [← step_betweenRuns s (.inr hs), h]⟩
  | fault r => rw [step_fault s r hs] at h; cases h

end Sys2Proof.Machine
end

