-- ==== Sys2Proof/Laws/Run.lean ====
section
/-! SUPPORT. Runs of the machine and the reference reading of the loop: one equation per case, so that neither is
unfolded in a proof; and what the invariant gives about a byte that was read. -/
namespace Sys2Proof.Machine

/-! ### Runs -/

theorem run_zero (s : State) : core.run 0 s = .next s := rfl

/-- A run of one step more, from a state whose step (`step s`, which is `core.step s`) answers a next state. -/
theorem run_succ {s t : core.State} (h : core.step s = .next t) (n : Nat) :
    core.run (n + 1) s = core.run n t := by
  rw [Host.Core.run.eq_def]
  simp only [h]

/-- A run from a state whose step faults stops there with that fault. -/
theorem run_fault {s : core.State} {f : core.Fault} (h : core.step s = .fault f) (n : Nat) :
    core.run (n + 1) s = .fault f := by
  rw [Host.Core.run.eq_def]
  simp only [h]

/-! ### The reference reading of the loop -/

theorem interpretFrom_nil (s : State) :
    interpretFrom [] s = { s with status := .fault { kind := .opcode, addr := s.pc } } := rfl

theorem interpretFrom_brk (rest : List Byte) (s : State) :
    interpretFrom (0x00 :: rest) s = { s with pc := s.pc + 1, status := .halted } := by
  cases rest <;> rfl

theorem interpretFrom_truncated (s : State) :
    interpretFrom [0xA9] s =
      { s with pc := s.pc + 1, status := .fault { kind := .operand, addr := s.pc + 1 } } := rfl

theorem interpretFrom_ldaImm (v : Byte) (rest : List Byte) (s : State) :
    interpretFrom (0xA9 :: v :: rest) s = interpretFrom rest { s with
      pc := s.pc + 2
      a := v
      p := (s.p &&& 0x7D) ||| (if v = 0x00 then 0x02 else 0x00) ||| (v &&& 0x80) } := rfl

theorem interpretFrom_unimplemented (op : Byte) (h0 : op ≠ 0x00) (h9 : op ≠ 0xA9) (rest : List Byte) (s : State) :
    interpretFrom (op :: rest) s = interpretFrom rest { s with pc := s.pc + 1 } := by
  rw [interpretFrom.eq_def]
  simp only [if_neg h0, if_neg h9]

/-! ### What the invariant gives -/

theorem ImageAdmitted.length_le {m : Memory} (h : ImageAdmitted m) : m.length ≤ 65535 := h.2

theorem ImageAdmitted.ofBytes {program : List Byte} (h : program.length ≤ 65535) :
    ImageAdmitted (Memory.ofBytes program) :=
  ⟨Memory.ofBytes_wf program, (Memory.ofBytes_length program).trans_le h⟩

/-- In a run the image is bound and admitted, and `PC` is at most `L`. -/
theorem Inv.running {s : State} (hi : Inv s) (hr : s.status = .running) :
    ∃ m, s.image = some m ∧ ImageAdmitted m ∧ s.pc.toNat ≤ m.length := by
  have h := hi.status
  simp only [StatusConsistent, hr] at h
  obtain ⟨m, hm⟩ := Option.isSome_iff_exists.1 h.1
  exact ⟨m, hm, hi.image m hm, by simpa [State.imageLength, hm] using h.2⟩

/-- A byte that can be read lies below `L`, and `L` is at most 65535. -/
theorem Inv.read_lt {s : State} (hi : Inv s) {k : Nat} {b : Byte} (h : memRead s k = some b) :
    k < s.imageLength ∧ s.imageLength ≤ 65535 := by
  cases hm : s.image with
  | none => simp [memRead, hm] at h
  | some m =>
    have ha := hi.image m hm
    simp only [memRead, hm] at h
    simp only [State.imageLength, hm]
    refine ⟨?_, ha.length_le⟩
    by_contra hc
    rw [(Memory.read_eq_none_iff m ha.1 k).2 (by omega)] at h
    cases h

/-- With an image bound, the machine's read is the image's. -/
theorem memRead_of_image {s : State} {m : Memory} (h : s.image = some m) (k : Nat) : memRead s k = m.read k := by
  simp [memRead, h]

theorem imageLength_of_image {s : State} {m : Memory} (h : s.image = some m) : s.imageLength = m.length := by
  simp [State.imageLength, h]

end Sys2Proof.Machine
end

