-- ==== Sys2Proof/Tests/Slice0.lean ====
section
/-! SUPPORT. Small tests, each about one operation or one step, with expected results from the spec's encodings and from
spec/95_test_vectors.md (named by vector); the well-formedness smoke test; and, for each statement with hypotheses, a
witness that meets them. The states are built by the helpers below. -/
namespace Sys2Proof.Tests

open Sys2Proof.Machine

/-- A run in progress over a program, at a given `PC`, with the power-on registers. -/
def running (program : List Byte) (pc : Word) : State :=
  { State.reset with image := some (Memory.ofBytes program), pc := pc, status := .running }

/-- The registers `A=12 X=34 Y=56 SP=78` of the vectors, with a given `P`. -/
def marked (s : State) (p : Byte) : State :=
  { s with a := 0x12, x := 0x34, y := 0x56, sp := 0x78, p := p }

/-- A state after a run that ended well, with calls of the host queued. -/
def halted (calls : List HostCall) : State :=
  { running [0x00] 1 with status := .halted, calls := calls }

/-- Whether an outcome is the given next state. -/
def answers (o : Host.Outcome State Fault Refusal) (t : State) : Bool :=
  match o with
  | .next u => u == t
  | .fault _ => false
  | .refused _ => false

/-! ### Well-formedness: the one check there is, on the program's length (R34) -/

theorem test_program_of_65535_bytes_is_well_formed : programWellFormed (List.replicate 65535 0x00) = true := by
  rw [programWellFormed_iff, List.length_replicate]

theorem test_program_of_65536_bytes_is_refused : ¬programWellFormed (List.replicate 65536 0x00) = true := by
  rw [programWellFormed_iff, List.length_replicate]; omega

theorem test_empty_program_is_well_formed : programWellFormed [] = true := by decide

/-! ### Decoding: words written out bit by bit from the encodings of spec/30_encoding.md (vectors DE1 to DE9) -/

theorem test_decode_brk : decode [0b00000000] = .ok (.brk, []) := by decide
theorem test_decode_lda_imm : decode [0b10101001, 0b01111111] = .ok (.ldaImm 0x7F, []) := by decide
theorem test_decode_unimp_01 : decode [0b00000001] = .ok (.unimp01, []) := by decide
theorem test_decode_unimp_A8 : decode [0b10101000] = .ok (.unimpA8, []) := by decide
theorem test_decode_unimp_AA : decode [0b10101010] = .ok (.unimpAA, []) := by decide
theorem test_decode_unimp_FF : decode [0b11111111] = .ok (.unimpFF, []) := by decide
theorem test_decode_unimp_EA : decode [0b11101010] = .ok (.unimpEA, []) := by decide
theorem test_decode_unimp_A2 : decode [0b10100010, 0x05] = .ok (.unimpA2, [0x05]) := by decide
theorem test_decode_unimp_20 : decode [0b00100000] = .ok (.unimp20, []) := by decide
/-- The operand byte is data, even `0xA9` (corner case of R76). -/
theorem test_decode_operand_is_data : decode [0xA9, 0xA9, 0x00] = .ok (.ldaImm 0xA9, [0x00]) := by decide
theorem test_decode_truncated_lda : decode [0b10101001] = .error .noOperand := by decide
theorem test_decode_nothing : decode [] = .error .noOpcode := by decide
/-- The table gives the row `LDA_IMM` 8 or 16 bits: with 8 the operand byte is 0, with 16 it is bits 15 to 8. -/
theorem test_table_word_short : decodeTableWord 8 0xA9 = some (.ldaImm 0x00) := by decide
theorem test_table_word_long : decodeTableWord 16 0x80A9 = some (.ldaImm 0x80) := by decide
theorem test_encode_lda_imm : encode (.ldaImm 0x05) = [0xA9, 0x05] := by decide

/-! ### Flags (vectors FL3, FL7, FL8, FL13, FL21, ZN1, ZN5) -/

theorem test_remove_interrupt_disable : removeFlag 0x24 .i = 0x20 := by decide
theorem test_insert_overflow : insertFlag 0xBF .v = 0xFF := by decide
theorem test_remove_negative : removeFlag 0xFF .n = 0x7F := by decide
theorem test_setFlag_negative : setFlag 0x24 .n true = 0xA4 := by decide
theorem test_test_unused_clear : testFlag 0x04 .u = false := by decide
theorem test_setZN_zero : setZN 0xFF 0x00 = 0x7F := by decide
theorem test_setZN_negative : setZN 0x24 0x80 = 0xA4 := by decide

/-! ### One step of an instruction -/

/-- LD8: a load clears a stale Z and N and passes the other six flags through. -/
theorem test_lda_clears_stale_flags :
    answers (step (marked (running [0xA9, 0x05, 0x00] 0) 0xFF))
      { marked (running [0xA9, 0x05, 0x00] 2) 0x7D with a := 0x05 } = true := by decide

/-- LD12: loading 0 sets Z. -/
theorem test_lda_zero :
    answers (step (marked (running [0xA9, 0x00, 0x00] 0) 0x00))
      { marked (running [0xA9, 0x00, 0x00] 2) 0x02 with a := 0x00 } = true := by decide

/-- BK3: the halt opcode changes nothing but PC and ends the run. -/
theorem test_brk_only_advances_and_halts :
    answers (step (marked (running [0x00, 0xA9, 0xFF] 0) 0xEB))
      { marked (running [0x00, 0xA9, 0xFF] 1) 0xEB with status := .halted } = true := by decide

/-- A halt opcode in the last byte does not fault (corner case of R75). -/
theorem test_brk_in_last_byte :
    answers (step (running [0xEA, 0x00] 1)) { running [0xEA, 0x00] 2 with status := .halted } = true := by decide

/-- UN3. -/
theorem test_unimp_A8_only_advances :
    answers (step (marked (running [0xA8, 0x00] 0) 0xFF)) (marked (running [0xA8, 0x00] 1) 0xFF) = true := by decide

/-- UN4. -/
theorem test_unimp_AA_only_advances :
    answers (step (marked (running [0xAA, 0x00] 0) 0x00)) (marked (running [0xAA, 0x00] 1) 0x00) = true := by decide

/-- UN7: no jump, and the bytes after it are not its operands. -/
theorem test_unimp_4C_does_not_jump :
    answers (step (running [0x4C, 0x00, 0x80] 0)) (running [0x4C, 0x00, 0x80] 1) = true := by decide

/-- UN6: X is not loaded. -/
theorem test_unimp_A2_does_not_load_x :
    answers (step (running [0xA2, 0x05, 0x00] 0)) (running [0xA2, 0x05, 0x00] 1) = true := by decide

/-! ### The exception -/

/-- FA1: an empty image faults at its first fetch. -/
theorem test_empty_image_faults :
    answers (step (running [] 0)) { running [] 0 with status := .fault ⟨.opcode, 0⟩ } = true := by decide

/-- FA4: a lone `0xA9` faults on its operand, with PC already advanced and A, P unwritten. -/
theorem test_truncated_lda_faults :
    answers (step (running [0xA9] 0)) { running [0xA9] 1 with status := .fault ⟨.operand, 1⟩ } = true := by decide

/-! ### The host -/

/-- HP4: `reset()` after a run that left `A=80 P=A4`. -/
theorem test_reset_call :
    answers (step { halted [.reset] with a := 0x80, p := 0xA4 }) State.reset = true := by decide

/-- HP6: `interpret` keeps A and P and sets PC to 0. -/
theorem test_interpret_call_keeps_registers :
    answers (step { halted [.interpret [0x00]] with a := 0x80, p := 0xA4 })
      { running [0x00] 0 with a := 0x80, p := 0xA4 } = true := by decide

/-- The placed instruction is the first one run after power-on. -/
theorem test_withFetchWord_runs_the_word :
    answers (step (State.reset.withFetchWord 16 0x80A9))
      { running [0xA9, 0x80] 2 with a := 0x80, p := 0xA4 } = true := by decide

/-! ### Witnesses: concrete data that meet the hypotheses of the statements -/

theorem inv_running_lda : Inv (running [0xA9, 0x80, 0x00] 0) :=
  ⟨fun _ hm => by cases hm; exact .ofBytes (by decide), by exact ⟨rfl, by decide⟩⟩

theorem inv_running_at_end : Inv (running [0xEA] 1) :=
  ⟨fun _ hm => by cases hm; exact .ofBytes (by decide), by exact ⟨rfl, by decide⟩⟩

theorem inv_running_truncated : Inv (running [0xEA, 0xA9] 1) :=
  ⟨fun _ hm => by cases hm; exact .ofBytes (by decide), by exact ⟨rfl, by decide⟩⟩

theorem boundary_running_lda : BoundaryInv (running [0xA9, 0x80, 0x00] 0) :=
  fun _ _ => ⟨fun _ => .entry, fun h => by cases h⟩

/-- ResetCallRestoresPowerOnState, both clauses. -/
theorem witness_reset_call :
    BetweenRuns (halted [.reset]) ∧ (halted [.reset]).calls = .reset :: [] ∧
    BetweenRuns (halted [.reset, .reset]) ∧ (halted [.reset, .reset]).calls = .reset :: .reset :: [] :=
  ⟨.inr rfl, rfl, .inr rfl, rfl⟩

/-- FlagPositionsAreTheEightBits: the ends of the range of positions, and a byte with its own flags. -/
theorem witness_flag_positions :
    0 < 8 ∧ 7 < 8 ∧ StatusFlag.position .c = 0 ∧ StatusFlag.position .n = 7 ∧
    ∀ f : StatusFlag, testFlag 0x24 f = testFlag (0x04 ||| 0x20) f :=
  ⟨by decide, by decide, rfl, rfl, fun _ => rfl⟩

/-- FlagPrimitivesTouchOneBit, SetFlagWritesOneBit: two different flags. -/
theorem witness_different_flags : StatusFlag.n ≠ StatusFlag.v := by decide

/-- SetZnWritesZeroAndNegative, HandlerContract, RunningStepFrame, LdaImmLoadsAccumulator: a flag that is neither. -/
theorem witness_other_flag : StatusFlag.c ≠ StatusFlag.z ∧ StatusFlag.c ≠ StatusFlag.n := by decide

/-- HostReadsRegistersBetweenRuns, both clauses. -/
theorem witness_host_reads : BetweenRuns State.reset ∧ ¬BetweenRuns (running [0x00] 0) := by
  refine ⟨.inl rfl, ?_⟩
  rintro (h | h) <;> cases h

/-- EveryStepKeepsRegisterValues: a step of a run, a call of the host, and a step with nothing to do. -/
theorem witness_register_values :
    RegisterInv (running [0xA9, 0x80, 0x00] 0) ∧ (∃ t, step (running [0xA9, 0x80, 0x00] 0) = .next t) ∧
    RegisterInv (halted [.reset]) ∧ (∃ t, step (halted [.reset]) = .next t) ∧
    RegisterInv State.reset ∧ ∃ t, step State.reset = .next t :=
  ⟨⟨rfl, rfl, rfl, .inl (by decide)⟩, ⟨_, rfl⟩, ⟨rfl, rfl, rfl, .inl (by decide)⟩, ⟨_, rfl⟩,
   ⟨rfl, rfl, rfl, .inl (by decide)⟩, ⟨_, rfl⟩⟩

/-- StepReadsOnlyItsOwnBytes: images that differ after the bytes a step reads, for a load and for a no-op. -/
theorem witness_other_image :
    (running [0xA9, 0x80, 0x00] 0).status = .running ∧ (running [0xFF, 0x00] 0).status = .running ∧
    memRead { running [0xA9, 0x80, 0x00] 0 with image := some (Memory.ofBytes [0xA9, 0x80]) } 0 =
      memRead (running [0xA9, 0x80, 0x00] 0) 0 ∧
    memRead { running [0xA9, 0x80, 0x00] 0 with image := some (Memory.ofBytes [0xA9, 0x80]) } 1 =
      memRead (running [0xA9, 0x80, 0x00] 0) 1 ∧
    memRead { running [0xFF, 0x00] 0 with image := some (Memory.ofBytes [0xFF]) } 0 =
      memRead (running [0xFF, 0x00] 0) 0 := by decide

/-- A canonical list of cells, and the empty one. -/
theorem test_canonical_image : Memory.wf ⟨[(0, 0xA9), (1, 0x05)]⟩ = true ∧ Memory.wf ⟨[]⟩ = true := by decide

/-- A list of cells that skips an index is not canonical. -/
theorem test_gap_is_not_canonical : Memory.wf ⟨[(0, 0xA9), (2, 0x05)]⟩ = false := by decide

/-- ImageLengthIsBoundedAtRunStart, InterpretCallStartsRun, InterpretCallRunsToItsEnd: 65535, 65536 and 0 bytes. -/
theorem witness_interpret_call (n : Nat) :
    BetweenRuns (halted [.interpret (List.replicate n 0x00)]) ∧
    (halted [.interpret (List.replicate n 0x00)]).calls = .interpret (List.replicate n 0x00) :: [] ∧
    (List.replicate 65535 (0x00 : Byte)).length ≤ 65535 ∧ 65535 < (List.replicate 65536 (0x00 : Byte)).length ∧
    List.replicate 0 (0x00 : Byte) = [] := by
  exact ⟨.inr rfl, rfl, by rw [List.length_replicate], by rw [List.length_replicate]; omega, rfl⟩

/-- ImageChangesOnlyBetweenRuns, OnlyListedEventsSetPc: one step of each kind answers a next state. -/
theorem witness_steps :
    (∃ t, step (running [0xA9, 0x80, 0x00] 0) = .next t) ∧ (∃ t, step (running [0xA9] 0) = .next t) ∧
    (∃ t, step (running [] 0) = .next t) ∧ (∃ t, step (running [0xFF] 0) = .next t) ∧
    (∃ t, step State.reset = .next t) ∧ (∃ t, step (halted [.reset]) = .next t) ∧
    ∃ t, step (halted [.interpret [0x00]]) = .next t :=
  ⟨⟨_, rfl⟩, ⟨_, rfl⟩, ⟨_, rfl⟩, ⟨_, rfl⟩, ⟨_, rfl⟩, ⟨_, rfl⟩, ⟨_, rfl⟩⟩

/-- EveryByteSequenceDecodes: the shortest sequences its first clause takes. -/
theorem witness_long_enough :
    instrLength 0xA9 ≤ ([0xA9, 0x00] : List Byte).length ∧ instrLength 0x00 ≤ ([0x00] : List Byte).length := by decide

/-- OpcodeByteSelectsInstruction, UnimplementedOpcodesOnlyAdvancePc: the neighbours of the two opcodes, and the ends. -/
theorem witness_unimplemented_opcodes :
    ∀ i ∈ [Instr.unimp01, .unimpA8, .unimpAA, .unimpFF], i.opcode ≠ 0x00 ∧ i.opcode ≠ 0xA9 := by decide

/-- EncodeInvertsDecode. -/
theorem witness_decoded : decode [0xA9, 0x05, 0x00] = .ok (.ldaImm 0x05, [0x00]) := by decide

/-- EveryStepStaysOnBoundaries. -/
theorem witness_boundaries :
    Inv (running [0xA9, 0x80, 0x00] 0) ∧ BoundaryInv (running [0xA9, 0x80, 0x00] 0) ∧
    ∃ t, step (running [0xA9, 0x80, 0x00] 0) = .next t :=
  ⟨inv_running_lda, boundary_running_lda, _, rfl⟩

/-- StepRunsDecodedInstruction. -/
theorem witness_decoded_at_pc :
    (running [0xEA, 0xA9, 0x05] 1).status = .running ∧
    (running [0xEA, 0xA9, 0x05] 1).image = some (Memory.ofBytes [0xEA, 0xA9, 0x05]) ∧
    (Memory.ofBytes [0xEA, 0xA9, 0x05]).wf = true ∧ Instr.WellFormed (.ldaImm 0x05) ∧
    decode ((Memory.ofBytes [0xEA, 0xA9, 0x05]).toBytes.drop (running [0xEA, 0xA9, 0x05] 1).pc.toNat) =
      .ok (.ldaImm 0x05, []) :=
  ⟨rfl, rfl, rfl, trivial, by decide⟩

/-- StepContinuesOrStops, RunningStepFrame, HostHasNoMoveDuringRun, and the two states of RegistersDoNotInfluenceControl. -/
theorem witness_running :
    (running [0xA9, 0x80, 0x00] 0).status = .running ∧ (marked (running [0xA9, 0x80, 0x00] 0) 0xFF).status = .running ∧
    (running [0xA9, 0x80, 0x00] 0).image = (marked (running [0xA9, 0x80, 0x00] 0) 0xFF).image ∧
    (running [0xA9, 0x80, 0x00] 0).pc = (marked (running [0xA9, 0x80, 0x00] 0) 0xFF).pc :=
  ⟨rfl, rfl, rfl, rfl⟩

/-- RunningStepFrame's last clause: a byte other than `0xA9` at PC. RegistersDoNotInfluenceControl's: two states with
one A. -/
theorem witness_not_a_load :
    memRead (running [0xFF, 0x00] 0) (running [0xFF, 0x00] 0).pc.toNat ≠ some 0xA9 ∧
    (running [0xFF] 0).a = ({ running [0xFF] 0 with x := 0x01 } : State).a := by decide

/-- HandlerContract: the instructions its clauses set apart, and a step that faults. -/
theorem witness_handler_contract :
    (∀ v, Instr.brk ≠ .ldaImm v) ∧ Instr.ldaImm 0x05 = .ldaImm 0x05 ∧ Instr.unimpFF ≠ .brk ∧ Instr.brk = .brk ∧
    (running [0xA9] 0).status = .running ∧
    ∃ t r, step (running [0xA9] 0) = .next t ∧ t.status = .fault r :=
  ⟨fun _ h => (by cases h), rfl, by decide, rfl, rfl, _, _, rfl, rfl⟩

/-- PcAdvancesByInstructionLength. -/
theorem witness_pc_advances :
    Inv (running [0xA9, 0x80, 0x00] 0) ∧ (running [0xA9, 0x80, 0x00] 0).status = .running ∧
    memRead (running [0xA9, 0x80, 0x00] 0) (running [0xA9, 0x80, 0x00] 0).pc.toNat = some 0xA9 ∧
    ∃ t, step (running [0xA9, 0x80, 0x00] 0) = .next t ∧ ∀ r, t.status ≠ .fault r :=
  ⟨inv_running_lda, rfl, by decide, _, rfl, fun _ h => (by cases h)⟩

/-- EveryStepKeepsInvariant, RunEndsWithinBound, RunAgreesWithInterpreterLoop: a state of a run, and one at its end. -/
theorem witness_invariant :
    Inv (running [0xA9, 0x80, 0x00] 0) ∧ (running [0xA9, 0x80, 0x00] 0).status = .running ∧
    (running [0xA9, 0x80, 0x00] 0).image = some (Memory.ofBytes [0xA9, 0x80, 0x00]) ∧
    (∃ t, step (running [0xA9, 0x80, 0x00] 0) = .next t) ∧
    Inv (running [0xEA] 1) ∧ (running [0xEA] 1).status = .running :=
  ⟨inv_running_lda, rfl, rfl, ⟨_, rfl⟩, inv_running_at_end, rfl⟩

/-- BrkEndsRun, LdaImmLoadsAccumulator (with its operand, and without) and UnimplementedOpcodesOnlyAdvancePc: the byte at
PC, each in the last place of the image it may have. -/
theorem witness_byte_at_pc :
    (Memory.ofBytes [0xEA, 0x00]).read (running [0xEA, 0x00] 1).pc.toNat = some 0x00 ∧
    (Memory.ofBytes [0xA9, 0x05]).read (running [0xA9, 0x05] 0).pc.toNat = some 0xA9 ∧
    (Memory.ofBytes [0xA9, 0x05]).read ((running [0xA9, 0x05] 0).pc.toNat + 1) = some 0x05 ∧
    (Memory.ofBytes [0xEA, 0xA9]).wf = true ∧
    (Memory.ofBytes [0xEA, 0xA9]).read (running [0xEA, 0xA9] 1).pc.toNat = some 0xA9 ∧
    (Memory.ofBytes [0xEA, 0xA9]).length ≤ (running [0xEA, 0xA9] 1).pc.toNat + 1 ∧
    (Memory.ofBytes [0xFF]).read (running [0xFF] 0).pc.toNat = some 0xFF := by decide

/-- OpcodeFetchPastEndFaults: PC at L, and PC one below it. -/
theorem witness_opcode_fetch :
    (running [0xEA] 1).status = .running ∧ (running [0xEA] 1).image = some (Memory.ofBytes [0xEA]) ∧
    (Memory.ofBytes [0xEA]).wf = true ∧ (Memory.ofBytes [0xEA]).length ≤ (running [0xEA] 1).pc.toNat ∧
    (running [0xEA] 0).pc.toNat < (Memory.ofBytes [0xEA]).length ∧ (∃ t, step (running [0xEA] 0) = .next t) ∧
    Inv (running [0xEA] 1) :=
  ⟨rfl, rfl, by decide, by decide, by decide, ⟨_, rfl⟩, inv_running_at_end⟩

/-- MissingOperandFaults: a `0xA9` at index L-1, and the step that faults there. -/
theorem witness_missing_operand :
    (running [0xEA, 0xA9] 1).status = .running ∧ (running [0xEA, 0xA9] 1).image = some (Memory.ofBytes [0xEA, 0xA9]) ∧
    ImageAdmitted (Memory.ofBytes [0xEA, 0xA9]) ∧
    (Memory.ofBytes [0xEA, 0xA9]).read (running [0xEA, 0xA9] 1).pc.toNat = some 0xA9 ∧
    (running [0xEA, 0xA9] 1).pc.toNat + 1 = (Memory.ofBytes [0xEA, 0xA9]).length ∧
    ∃ t addr, step (running [0xEA, 0xA9] 1) = .next t ∧ t.status = .fault { kind := .operand, addr := addr } :=
  ⟨rfl, rfl, .ofBytes (by decide), by decide, by decide, _, _, rfl, rfl⟩

/-- FaultKeepsRegisters: the two kinds. -/
theorem witness_fault :
    (Inv (running [0xEA] 1) ∧ (running [0xEA] 1).status = .running ∧
      ∃ t r, step (running [0xEA] 1) = .next t ∧ t.status = .fault r ∧ r.kind = .opcode) ∧
    (Inv (running [0xEA, 0xA9] 1) ∧ (running [0xEA, 0xA9] 1).status = .running ∧
      ∃ t r, step (running [0xEA, 0xA9] 1) = .next t ∧ t.status = .fault r ∧ r.kind = .operand) :=
  ⟨⟨inv_running_at_end, rfl, _, _, rfl, rfl, rfl⟩, ⟨inv_running_truncated, rfl, _, _, rfl, rfl, rfl⟩⟩

/-- FaultIsTerminal. -/
theorem witness_faulted :
    ({ running [] 0 with status := .fault ⟨.opcode, 0⟩, calls := [.reset] } : State).status = .fault ⟨.opcode, 0⟩ := rfl

/-- MachineStopsOnlyWhereStated: a step that is refused, and one that faults. -/
theorem witness_stops :
    step (halted [.interpret (List.replicate 65536 0x00)]) = .refused .imageTooLong ∧
    step { running [] 0 with status := .fault ⟨.opcode, 0⟩ } = .fault (.outOfBounds .opcode 0) := by
  refine ⟨?_, rfl⟩
  rw [step_betweenRuns _ (.inr rfl)]
  exact betweenRuns_interpret_refused (rest := []) rfl (by rw [List.length_replicate]; omega)

/-- CoreIdlesBetweenRuns: after power-on, and after a run. -/
theorem witness_idle :
    BetweenRuns State.reset ∧ State.reset.calls = [] ∧ BetweenRuns (halted []) ∧ (halted []).calls = [] :=
  ⟨.inl rfl, rfl, .inr rfl, rfl⟩

end Sys2Proof.Tests
end

section
/-! Rules of the flag operations, at the level of the eight flags: what each flag tests as after a write, and that a flag
byte is its eight flags (spec/10_state.md R15, R18 to R20). -/
namespace Sys2Proof.Machine

@[simp] theorem StatusFlag.position_inj {f g : StatusFlag} : f.position = g.position ↔ f = g :=
  ⟨StatusFlag.position_injective, congrArg StatusFlag.position⟩

/-- The eight flags leave no bit of the byte unnamed. -/
theorem StatusFlag.exists_position_eq : ∀ k < 8, ∃ f : StatusFlag, f.position = k
  | 0, _ => ⟨.c, rfl⟩
  | 1, _ => ⟨.z, rfl⟩
  | 2, _ => ⟨.i, rfl⟩
  | 3, _ => ⟨.d, rfl⟩
  | 4, _ => ⟨.b, rfl⟩
  | 5, _ => ⟨.u, rfl⟩
  | 6, _ => ⟨.v, rfl⟩
  | 7, _ => ⟨.n, rfl⟩

theorem eq_of_testFlag_eq {p q : Byte} (h : ∀ f : StatusFlag, testFlag p f = testFlag q f) : p = q := by
  refine BitVec.eq_of_getLsbD_eq fun k hk => ?_
  obtain ⟨f, rfl⟩ := StatusFlag.exists_position_eq k hk
  rw [← testFlag_eq_getLsbD, ← testFlag_eq_getLsbD, h f]

@[simp] theorem testFlag_insertFlag (p : Byte) (f g : StatusFlag) :
    testFlag (insertFlag p f) g = (testFlag p g || decide (g = f)) := by
  simp only [testFlag_eq_getLsbD, insertFlag_getLsbD, StatusFlag.position_inj]

@[simp] theorem testFlag_removeFlag (p : Byte) (f g : StatusFlag) :
    testFlag (removeFlag p f) g = (testFlag p g && !decide (g = f)) := by
  simp only [testFlag_eq_getLsbD, removeFlag_getLsbD, StatusFlag.position_inj]

@[simp] theorem testFlag_setFlag (p : Byte) (f g : StatusFlag) (cond : Bool) :
    testFlag (setFlag p f cond) g = if g = f then cond else testFlag p g := by
  simp only [testFlag_eq_getLsbD, setFlag_getLsbD, StatusFlag.position_inj]

/-- Of two writes to one flag the last one counts. -/
theorem setFlag_setFlag_same (p : Byte) (f : StatusFlag) (c d : Bool) :
    setFlag (setFlag p f c) f d = setFlag p f d := by
  refine eq_of_testFlag_eq fun g => ?_
  by_cases h : g = f <;> simp [h]

/-- Writes to two different flags commute. -/
theorem setFlag_comm {f g : StatusFlag} (h : f ≠ g) (p : Byte) (c d : Bool) :
    setFlag (setFlag p f c) g d = setFlag (setFlag p g d) f c := by
  refine eq_of_testFlag_eq fun k => ?_
  by_cases hf : k = f
  · subst hf
    simp [h]
  · simp [hf]

@[simp] theorem testFlag_setZN_zero (p v : Byte) : testFlag (setZN p v) .z = (v == 0) := by
  simp [setZN]

@[simp] theorem testFlag_setZN_negative (p v : Byte) : testFlag (setZN p v) .n = v.getLsbD 7 := by
  simp [setZN]

theorem testFlag_setZN_of_ne (p v : Byte) {g : StatusFlag} (hz : g ≠ .z) (hn : g ≠ .n) :
    testFlag (setZN p v) g = testFlag p g := by
  simp [setZN, hz, hn]

end Sys2Proof.Machine
end

section
/-! The obligations on the flag operations (spec/10_state.md R18 to R20). -/
namespace Sys2Proof.Machine

/-- Settles O4: the formulas are the definitions, and each flag after a write is read off by the rules above. -/
theorem flagPrimitivesTouchOneBit : Obligations.FlagPrimitivesTouchOneBit := by
  intro p f
  refine ⟨rfl, rfl, rfl, rfl, ?inserted, ?removed, fun g hg => ⟨?insertKeeps, ?removeKeeps⟩⟩
  case inserted => simp
  case removed => simp
  case insertKeeps => simp [hg]
  case removeKeeps => simp [hg]

/-- Settles O5: one rule for the flags after `setFlag`, and the last write to a flag counts. -/
theorem setFlagWritesOneBit : Obligations.SetFlagWritesOneBit := by
  intro p f cond
  refine ⟨rfl, ?written, fun g hg => ?kept, setFlag_setFlag_same p f cond cond⟩
  case written => rw [testFlag_setFlag, if_pos rfl]
  case kept => rw [testFlag_setFlag, if_neg hg]

/-- Settles O6: Zero and Negative are two different flags, so the two writes of `SetZN` commute. -/
theorem setZnWritesZeroAndNegative : Obligations.SetZnWritesZeroAndNegative := fun p v =>
  ⟨testFlag_setZN_zero p v, testFlag_setZN_negative p v, fun _ hz hn => testFlag_setZN_of_ne p v hz hn,
    setFlag_comm (by decide) p _ _⟩

end Sys2Proof.Machine
end

section
/-! The obligation on the opcode map (spec/30_encoding.md R56), and the two equations it needs: the bytes of an
instruction without an operand, and the state one byte further on. -/
namespace Sys2Proof.Machine

/-- Format F1: the opcode byte alone is the instruction (spec/30_encoding.md R51). -/
theorem encode_of_operandBytes_nil {i : Instr} (h : i.operandBytes = []) : encode i = [i.opcode] :=
  congrArg (i.opcode :: ·) h

theorem State.advance_one (s : State) : s.advance 1 = { s with pc := s.pc + 1 } := rfl

/-- Settles O15: an opcode byte that is neither `0x00` nor `0xA9` decodes to an instruction without an operand that is
filed under that byte, and by its opcode this instruction is the shared no-op. -/
theorem opcodeByteSelectsInstruction : Obligations.OpcodeByteSelectsInstruction := by
  refine ⟨decode_brk, decode_ldaImm, fun op h0 h9 => ?_⟩
  obtain ⟨i, rfl, hoperand, hdecode⟩ := decode_implied op h9
  refine ⟨i, rfl, encode_of_operandBytes_nil hoperand, hdecode, fun s => ?_⟩
  rw [exec_unimplemented i h0 h9, State.advance_one]

end Sys2Proof.Machine
end

section
/-! What a handler and a step of a run leave unchanged (spec/40_interpreter_loop.md R70), as one relation between the
states before and after: each operation of the core keeps it, and so does every step of a run. -/
namespace Sys2Proof.Machine

/-- Nothing of `s` that the handler contract lists as never changed differs in `t`: `X`, `Y`, `SP`, the flags other than
Zero and Negative, the image, and the host's queue (R70). -/
structure KeepsFrame (s t : State) : Prop where
  x : t.x = s.x
  y : t.y = s.y
  sp : t.sp = s.sp
  image : t.image = s.image
  calls : t.calls = s.calls
  flags : ∀ f : StatusFlag, f ≠ .z → f ≠ .n → testFlag t.p f = testFlag s.p f

theorem KeepsFrame.memRead {s t : State} (h : KeepsFrame s t) (addr : Nat) : memRead t addr = memRead s addr := by
  simp only [Machine.memRead, h.image]

theorem KeepsFrame.trans {s t u : State} (h : KeepsFrame s t) (h' : KeepsFrame t u) : KeepsFrame s u where
  x := h'.x.trans h.x
  y := h'.y.trans h.y
  sp := h'.sp.trans h.sp
  image := h'.image.trans h.image
  calls := h'.calls.trans h.calls
  flags f hz hn := (h'.flags f hz hn).trans (h.flags f hz hn)

theorem keepsFrame_advance (s : State) (n : Nat) : KeepsFrame s (s.advance n) :=
  ⟨rfl, rfl, rfl, rfl, rfl, fun _ _ _ => rfl⟩

theorem keepsFrame_halt (s : State) : KeepsFrame s s.halt :=
  ⟨rfl, rfl, rfl, rfl, rfl, fun _ _ _ => rfl⟩

theorem keepsFrame_raiseOutOfBounds (kind : AccessKind) (s : State) : KeepsFrame s (raiseOutOfBounds kind s) :=
  ⟨rfl, rfl, rfl, rfl, rfl, fun _ _ _ => rfl⟩

theorem keepsFrame_loadA (s : State) (v : Byte) : KeepsFrame s (s.loadA v) :=
  ⟨rfl, rfl, rfl, rfl, rfl, fun _ hz hn => testFlag_setZN_of_ne s.p v hz hn⟩

/-- Two advances are one, modulo 65536. -/
@[simp] theorem State.advance_advance (s : State) (m n : Nat) : (s.advance m).advance n = s.advance (m + n) := by
  simp only [State.advance, BitVec.add_assoc, BitVec.ofNat_add]

/-- Every step of a run keeps the frame, the faulting ones included. -/
theorem keepsFrame_step {s t : State} (hr : s.status = .running) (h : step s = .next t) : KeepsFrame s t := by
  rcases step_running_cases s hr with
    ⟨-, hstep⟩ | ⟨-, -, hstep⟩ | ⟨v, -, -, hstep⟩ | ⟨-, hstep⟩ | ⟨op, -, -, -, hstep⟩
  all_goals cases h.symm.trans hstep
  · exact keepsFrame_raiseOutOfBounds .opcode s
  case inr.inl => exact (keepsFrame_advance s 1).trans (keepsFrame_raiseOutOfBounds .operand _)
  · rw [State.advance_advance]
    exact (keepsFrame_advance s 2).trans (keepsFrame_loadA _ v)
  case inr.inr.inr.inl => exact (keepsFrame_advance s 1).trans (keepsFrame_halt _)
  case inr.inr.inr.inr => exact keepsFrame_advance s 1

end Sys2Proof.Machine
end

section
/-! Everything `exec` can do, by the kind of the instruction: the halt, the load, or one of the 254 one-byte no-ops
(spec/30_encoding.md R56, spec/43_unimplemented_opcodes.md R77). -/
namespace Sys2Proof.Machine

theorem instr_cases (i : Instr) :
    i = .brk ∨ (∃ v, i = .ldaImm v) ∨ (i.opcode ≠ 0x00 ∧ i.opcode ≠ 0xA9 ∧ i.operandBytes = []) := by
  cases i
  case brk => exact .inl rfl
  case ldaImm v => exact .inr (.inl ⟨v, rfl⟩)
  all_goals exact .inr (.inr ⟨by decide, by decide, rfl⟩)

theorem exec_cases (i : Instr) (s : State) :
    (i = .brk ∧ exec i s = .next (s.advance 1).halt) ∨
    (∃ v, i = .ldaImm v ∧ exec i s = .next ((s.advance 2).loadA v)) ∨
    (i ≠ .brk ∧ (∀ v, i ≠ .ldaImm v) ∧ encode i = [i.opcode] ∧ exec i s = .next (s.advance 1)) := by
  rcases instr_cases i with rfl | ⟨v, rfl⟩ | ⟨h0, h9, hoperand⟩
  · exact .inl ⟨rfl, exec_brk s⟩
  · exact .inr (.inl ⟨v, rfl, by rw [exec_ldaImm, State.advance_advance]⟩)
  · refine .inr (.inr ⟨?_, ?_, encode_of_operandBytes_nil hoperand, exec_unimplemented i h0 h9 s⟩)
    · rintro rfl
      exact h0 rfl
    · rintro v rfl
      exact h9 rfl

/-- Every instruction answers a next state, with `PC` past exactly its bytes and the frame kept; the registers `A` and
`P` and the status are written by the load and by the halt alone (R70). -/
theorem exec_effect (i : Instr) (s : State) : ∃ t, exec i s = .next t ∧ KeepsFrame s t ∧
    t.pc = s.pc + BitVec.ofNat 16 (encode i).length ∧
    ((∀ v, i ≠ .ldaImm v) → t.a = s.a ∧ t.p = s.p) ∧
    (∀ v, i = .ldaImm v → t.a = v ∧ t.p = setZN s.p v) ∧
    (i ≠ .brk → t.status = s.status) ∧ (i = .brk → t.status = .halted) := by
  rcases exec_cases i s with ⟨rfl, hexec⟩ | ⟨v, rfl, hexec⟩ | ⟨hbrk, hlda, hencode, hexec⟩
  · exact ⟨_, hexec, (keepsFrame_advance s 1).trans (keepsFrame_halt _), rfl, fun _ => ⟨rfl, rfl⟩,
      fun _ h => (by cases h), fun h => absurd rfl h, fun _ => rfl⟩
  · refine ⟨_, hexec, (keepsFrame_advance s 2).trans (keepsFrame_loadA _ v), rfl, fun h => absurd rfl (h v),
      fun w hw => ?_, fun _ => rfl, fun h => (by cases h)⟩
    cases hw
    exact ⟨rfl, rfl⟩
  · exact ⟨_, hexec, keepsFrame_advance s 1, by rw [hencode]; rfl, fun _ => ⟨rfl, rfl⟩,
      fun v hv => absurd hv (hlda v), fun _ => rfl, fun h => absurd h hbrk⟩

end Sys2Proof.Machine
end

section
/-! The obligations on one step of the interpreter loop (spec/40_interpreter_loop.md R69, R70, R74). -/
namespace Sys2Proof.Machine

/-- Settles O23: the five cases of a step of a run are two faults, the load, the halt and the no-op, told apart by the
bytes at `PC`. -/
theorem stepContinuesOrStops : Obligations.StepContinuesOrStops := by
  intro s hr
  rcases step_running_cases s hr with
    ⟨hop, hstep⟩ | ⟨hop, harg, hstep⟩ | ⟨v, hop, harg, hstep⟩ | ⟨hop, hstep⟩ | ⟨op, hop, h0, h9, hstep⟩
  · exact ⟨_, hstep, by simp [hop]⟩
  · exact ⟨_, hstep, by simp [hop, harg]⟩
  · exact ⟨_, hstep, by simp [hop, harg, hr]⟩
  · exact ⟨_, hstep, by simp [hop]⟩
  · exact ⟨_, hstep, by simp [hop, hr, show op ≠ 0x00#8 from h0, show op ≠ 0xA9#8 from h9]⟩

/-- Settles O24: the effect of one instruction, and for a step that faults the frame every step of a run keeps. -/
theorem handlerContract : Obligations.HandlerContract := by
  refine ⟨fun i s => ?handler, fun s t _ hr hstep _ => ?faulting⟩
  case handler =>
    obtain ⟨t, hexec, frame, hpc, hother, hlda, hrest⟩ := exec_effect i s
    exact ⟨t, hexec, hpc, frame.x, frame.y, frame.sp, frame.image, frame.calls, frame.memRead, frame.flags,
      hother, hlda, hrest⟩
  case faulting =>
    have frame := keepsFrame_step hr hstep
    exact ⟨frame.x, frame.y, frame.sp, frame.image, frame.flags⟩

/-- How a step of a run moves `PC`, by the bytes there: `+1` after each byte it reads (R67, R74). -/
theorem step_running_pc {s t : State} (hr : s.status = .running) (h : step s = .next t) :
    (memRead s s.pc.toNat = none ∧ t.pc = s.pc) ∨
    (memRead s s.pc.toNat = some 0xA9 ∧ memRead s (s.pc.toNat + 1) = none ∧ t.pc = s.pc + 1) ∨
    (memRead s s.pc.toNat = some 0xA9 ∧ memRead s (s.pc.toNat + 1) ≠ none ∧ t.pc = s.pc + 2) ∨
    (∃ op, memRead s s.pc.toNat = some op ∧ op ≠ 0xA9 ∧ t.pc = s.pc + 1) := by
  rcases step_running_cases s hr with
    ⟨hop, hstep⟩ | ⟨hop, harg, hstep⟩ | ⟨v, hop, harg, hstep⟩ | ⟨hop, hstep⟩ | ⟨op, hop, -, h9, hstep⟩
  all_goals cases h.symm.trans hstep
  · exact .inl ⟨hop, rfl⟩
  case inr.inl => exact .inr (.inl ⟨hop, harg, rfl⟩)
  case inr.inr.inl => exact .inr (.inr (.inl ⟨hop, by simp [harg], by rw [State.advance_advance]; rfl⟩))
  case inr.inr.inr.inl => exact .inr (.inr (.inr ⟨0x00, hop, by decide, rfl⟩))
  case inr.inr.inr.inr => exact .inr (.inr (.inr ⟨op, hop, h9, rfl⟩))

/-- Settles O27: a step that answers a next state is a step of a run or the host's turn, and each of the two has its
list of cases. -/
theorem onlyListedEventsSetPc : Obligations.OnlyListedEventsSetPc := by
  intro s t h
  rcases step_next_cases h with hr | ⟨hbetween, hturn⟩
  · exact .inl ⟨hr, step_running_pc hr h⟩
  · refine .inr ⟨hbetween, ?_⟩
    rcases betweenRuns_next_cases hturn with ⟨hc, rfl⟩ | ⟨rest, hc, rfl⟩ | ⟨program, rest, hc, -, rfl⟩
    · exact .inl ⟨hc, rfl⟩
    · exact .inr (.inl ⟨⟨rest, hc⟩, rfl⟩)
    · exact .inr (.inr ⟨⟨program, rest, hc⟩, rfl⟩)

end Sys2Proof.Machine
end

section
/-! The obligation on the halt instruction (spec/41_halt.md R75), and the one case of a step of a run that it needs. -/
namespace Sys2Proof.Machine

theorem State.advance_one_halt (s : State) : (s.advance 1).halt = { s with pc := s.pc + 1, status := .halted } := rfl

/-- Of the cases of a step of a run, the byte `0x00` at `PC` leaves the halt alone. -/
theorem step_brk {s : State} (hr : s.status = .running) (h : memRead s s.pc.toNat = some 0x00) :
    step s = .next (s.advance 1).halt := by
  rcases step_running_cases s hr with
    ⟨hop, -⟩ | ⟨hop, -⟩ | ⟨_, hop, -⟩ | ⟨-, hstep⟩ | ⟨op, hop, h0, -⟩
  case inr.inr.inr.inl => exact hstep
  case inr.inr.inr.inr => exact absurd (Option.some.inj (hop.symm.trans h)) h0
  all_goals exact absurd (h.symm.trans hop) (by decide)

/-- Settles O34: the halt has no operand, and a step that finds its byte at `PC` is its `exec`. -/
theorem brkEndsRun : Obligations.BrkEndsRun := by
  refine ⟨encode_of_operandBytes_nil rfl, decode_brk, fun s => ?effect, fun s m hr hm hread => ?step⟩
  case effect => rw [exec_brk, State.advance_one_halt]
  case step => rw [step_brk hr ((memRead_of_image hm _).trans hread), State.advance_one_halt]

end Sys2Proof.Machine
end

section
/-! The obligation on the load instruction (spec/42_load_accumulator_immediate.md R76), and the two cases of a step of a
run that it needs: `0xA9` at `PC` with its operand, and without. -/
namespace Sys2Proof.Machine

theorem exec_ldaImm_eq (v : Byte) (s : State) :
    exec (.ldaImm v) s = .next { s with pc := s.pc + 2, a := v, p := setZN s.p v } := by
  rw [exec_ldaImm, State.advance_advance]
  rfl

theorem raiseOutOfBounds_operand_advance_one (s : State) :
    raiseOutOfBounds .operand (s.advance 1) =
      { s with pc := s.pc + 1, status := .fault { kind := .operand, addr := s.pc + 1 } } := rfl

/-- With `0xA9` at `PC`, the byte after it alone decides the step: the load where it is there, the fault where it is
not (R76, R82). -/
theorem step_ldaImm_cases {s : State} (hr : s.status = .running) (h : memRead s s.pc.toNat = some 0xA9) :
    (memRead s (s.pc.toNat + 1) = none ∧ step s = .next (raiseOutOfBounds .operand (s.advance 1))) ∨
    (∃ v, memRead s (s.pc.toNat + 1) = some v ∧ step s = exec (.ldaImm v) s) := by
  rcases step_running_cases s hr with
    ⟨hop, -⟩ | ⟨-, harg, hstep⟩ | ⟨v, -, harg, hstep⟩ | ⟨hop, -⟩ | ⟨op, hop, -, h9, -⟩
  case inr.inl => exact .inl ⟨harg, hstep⟩
  case inr.inr.inl => exact .inr ⟨v, harg, hstep⟩
  case inr.inr.inr.inr => exact absurd (Option.some.inj (hop.symm.trans h)) h9
  all_goals exact absurd (h.symm.trans hop) (by decide)

theorem step_ldaImm {s : State} {v : Byte} (hr : s.status = .running) (h : memRead s s.pc.toNat = some 0xA9)
    (harg : memRead s (s.pc.toNat + 1) = some v) : step s = exec (.ldaImm v) s := by
  rcases step_ldaImm_cases hr h with ⟨hnone, -⟩ | ⟨w, hw, hstep⟩
  · cases hnone.symm.trans harg
  · cases hw.symm.trans harg
    exact hstep

theorem step_ldaImm_truncated {s : State} (hr : s.status = .running) (h : memRead s s.pc.toNat = some 0xA9)
    (harg : memRead s (s.pc.toNat + 1) = none) : step s = .next (raiseOutOfBounds .operand (s.advance 1)) := by
  rcases step_ldaImm_cases hr h with ⟨-, hstep⟩ | ⟨w, hw, -⟩
  · exact hstep
  · cases hw.symm.trans harg

/-- Settles O35: the effect is one record update, its flags are read off by the rules of `SetZN`, and a step that finds
`0xA9` at `PC` is this effect or, on a canonical image that ends before the operand, the fault. -/
theorem ldaImmLoadsAccumulator : Obligations.LdaImmLoadsAccumulator := by
  refine ⟨fun v => ⟨rfl, decode_ldaImm v⟩, fun v s => ⟨setZN s.p v, exec_ldaImm_eq v s, ?flags⟩,
    fun s m v hr hm hop harg => ?load, fun s m hr hm hwf hop hend => ?fault⟩
  case flags =>
    exact ⟨testFlag_setZN_zero s.p v, testFlag_setZN_negative s.p v,
      fun _ hz hn => testFlag_setZN_of_ne s.p v hz hn, rfl⟩
  case load =>
    rw [step_ldaImm hr ((memRead_of_image hm _).trans hop) ((memRead_of_image hm _).trans harg), exec_ldaImm_eq]
  case fault =>
    have hnone := (Memory.read_eq_none_iff m hwf _).2 hend
    rw [step_ldaImm_truncated hr ((memRead_of_image hm _).trans hop) ((memRead_of_image hm _).trans hnone),
      raiseOutOfBounds_operand_advance_one]

end Sys2Proof.Machine
end

section
/-! The obligation on the 254 unimplemented opcodes (spec/43_unimplemented_opcodes.md R77): each instruction of one byte
stands in the opcode map under its own opcode, and any byte but `0x00` and `0xA9` at `PC` makes the step the no-op. -/
namespace Sys2Proof.Machine

/-- The opcode map and `Instr.opcode` agree: an instruction is the entry filed under its own opcode (R56). -/
theorem opcodeEntry_opcode (i : Instr) (h9 : i.opcode ≠ 0xA9) : opcodeEntry i.opcode = .implied i := by
  cases i
  case ldaImm => exact absurd rfl h9
  all_goals rfl

theorem decode_opcode_cons (i : Instr) (h9 : i.opcode ≠ 0xA9) (rest : List Byte) :
    decode (i.opcode :: rest) = .ok (i, rest) := by
  simp only [decode, opcodeEntry_opcode i h9]

theorem encode_unimplemented (i : Instr) (h0 : i.opcode ≠ 0x00) (h9 : i.opcode ≠ 0xA9) : encode i = [i.opcode] := by
  rcases instr_cases i with rfl | ⟨v, rfl⟩ | ⟨-, -, hoperand⟩
  · exact absurd rfl h0
  · exact absurd rfl h9
  · exact encode_of_operandBytes_nil hoperand

/-- Of the cases of a step of a run, any byte at `PC` but the two opcodes leaves the no-op alone. -/
theorem step_unimplemented {s : State} {op : Byte} (hr : s.status = .running)
    (h : memRead s s.pc.toNat = some op) (h0 : op ≠ 0x00) (h9 : op ≠ 0xA9) : step s = .next (s.advance 1) := by
  rcases step_running_cases s hr with ⟨hop, -⟩ | ⟨hop, -⟩ | ⟨_, hop, -⟩ | ⟨hop, -⟩ | ⟨_, -, -, -, hstep⟩
  case inr.inr.inr.inr => exact hstep
  case inl => cases h.symm.trans hop
  case inr.inr.inr.inl => exact absurd (Option.some.inj (h.symm.trans hop)) h0
  all_goals exact absurd (Option.some.inj (h.symm.trans hop)) h9

/-- Settles O36: the instruction has no operand and is the entry under its opcode, and its `exec` and a step that finds
its byte at `PC` are both the advance by one byte. -/
theorem unimplementedOpcodesOnlyAdvancePc : Obligations.UnimplementedOpcodesOnlyAdvancePc := by
  refine ⟨fun i s h0 h9 => ⟨encode_unimplemented i h0 h9, decode_opcode_cons i h9, ?effect⟩,
    fun s m op hr hm hread h0 h9 => ?step⟩
  case effect => rw [exec_unimplemented i h0 h9, State.advance_one]
  case step => rw [step_unimplemented hr ((memRead_of_image hm _).trans hread) h0 h9, State.advance_one]

end Sys2Proof.Machine
end

section
/-! The obligations on the one exception (spec/60_exceptions.md R81, R82): which steps of a run take `OutOfBounds`, and
where in an admitted image they do. -/
namespace Sys2Proof.Machine

/-- Of the cases of a step of a run, no byte at `PC` leaves the failed opcode fetch alone. -/
theorem step_opcode_missing {s : State} (hr : s.status = .running) (h : memRead s s.pc.toNat = none) :
    step s = .next (raiseOutOfBounds .opcode s) := by
  rcases step_running_cases s hr with ⟨-, hstep⟩ | ⟨hop, -⟩ | ⟨_, hop, -⟩ | ⟨hop, -⟩ | ⟨_, hop, -⟩
  case inl => exact hstep
  all_goals cases h.symm.trans hop

/-- A step of a run that ends in Fault is one of the two failed reads, told apart by the byte at `PC` (R80). -/
theorem step_running_fault_cases {s t : State} {r : OutOfBounds} (hr : s.status = .running)
    (h : step s = .next t) (ht : t.status = .fault r) :
    (memRead s s.pc.toNat = none ∧ t = raiseOutOfBounds .opcode s) ∨
    (memRead s s.pc.toNat = some 0xA9 ∧ memRead s (s.pc.toNat + 1) = none ∧
      t = raiseOutOfBounds .operand (s.advance 1)) := by
  rcases step_running_cases s hr with
    ⟨hop, hstep⟩ | ⟨hop, harg, hstep⟩ | ⟨v, -, -, hstep⟩ | ⟨-, hstep⟩ | ⟨op, -, -, -, hstep⟩
  all_goals cases h.symm.trans hstep
  · exact .inl ⟨hop, rfl⟩
  case inr.inl => exact .inr ⟨hop, harg, rfl⟩
  -- The load, the halt and the no-op leave the status Running or Halted.
  all_goals simp [hr] at ht

theorem opcode_missing_of_step_fault {s t : State} {addr : Word} (hr : s.status = .running)
    (h : step s = .next t) (ht : t.status = .fault { kind := .opcode, addr := addr }) :
    memRead s s.pc.toNat = none := by
  rcases step_running_fault_cases hr h ht with ⟨hop, -⟩ | ⟨-, -, rfl⟩
  · exact hop
  · cases ht

theorem operand_missing_of_step_fault {s t : State} {addr : Word} (hr : s.status = .running)
    (h : step s = .next t) (ht : t.status = .fault { kind := .operand, addr := addr }) :
    memRead s s.pc.toNat = some 0xA9 ∧ memRead s (s.pc.toNat + 1) = none := by
  rcases step_running_fault_cases hr h ht with ⟨-, rfl⟩ | ⟨hop, harg, -⟩
  · cases ht
  · exact ⟨hop, harg⟩

theorem Memory.lt_length_of_read {m : Memory} (hwf : m.wf = true) {addr : Nat} {b : Byte}
    (h : m.read addr = some b) : addr < m.length := by
  by_contra hge
  cases h.symm.trans ((Memory.read_eq_none_iff m hwf addr).2 (Nat.le_of_not_lt hge))

/-- With a canonical image bound, the machine's read fails exactly at or past `L` (R31). -/
theorem memRead_eq_none_iff {s : State} {m : Memory} (hm : s.image = some m) (hwf : m.wf = true) (k : Nat) :
    memRead s k = none ↔ m.length ≤ k := by
  rw [memRead_of_image hm, Memory.read_eq_none_iff m hwf]

/-- In a run that meets the invariant `PC` is at most `L` (R73). -/
theorem Inv.pc_le_length {s : State} {m : Memory} (hi : Inv s) (hr : s.status = .running) (hm : s.image = some m) :
    s.pc.toNat ≤ m.length := by
  obtain ⟨m', hm', -, hle⟩ := hi.running hr
  cases hm.symm.trans hm'
  exact hle

/-- Settles O37: on a canonical image the opcode fetch fails exactly at or past `L`, and the invariant keeps `PC` from
passing `L`. -/
theorem opcodeFetchPastEndFaults : Obligations.OpcodeFetchPastEndFaults := by
  intro s m hr hm hwf
  have fetch_fails_iff := memRead_eq_none_iff hm hwf s.pc.toNat
  refine ⟨fun hend => ?faults, fun hlt t addr hstep ht => ?only, fun hi hend => ?atEnd⟩
  case faults => exact step_opcode_missing hr (fetch_fails_iff.2 hend)
  case only =>
    have hend := fetch_fails_iff.1 (opcode_missing_of_step_fault hr hstep ht)
    exact Nat.not_lt_of_le hend hlt
  case atEnd => exact Nat.le_antisymm (hi.pc_le_length hr hm) hend

/-- Settles O38: the operand read fails exactly when the index after the `0xA9` is `L`; and as an admitted `L` is below
65536, `PC + 1` does not wrap there. -/
theorem missingOperandFaults : Obligations.MissingOperandFaults := by
  intro s m hr hm hadm
  have hwf : m.wf = true := hadm.1
  have operand_fails_iff := memRead_eq_none_iff hm hwf (s.pc.toNat + 1)
  refine ⟨fun hop hlast => ⟨?faults, ?noWrap⟩, fun t addr hstep ht => ?only⟩
  case faults =>
    rw [step_ldaImm_truncated hr ((memRead_of_image hm _).trans hop) (operand_fails_iff.2 hlast.ge),
      raiseOutOfBounds_operand_advance_one]
  case noWrap =>
    have hlen := hadm.length_le
    exact (s.advance_pc_toNat 1 (by omega)).trans hlast
  case only =>
    obtain ⟨hop, harg⟩ := operand_missing_of_step_fault hr hstep ht
    rw [memRead_of_image hm] at hop
    exact ⟨hop, Nat.le_antisymm (Memory.lt_length_of_read hwf hop) (operand_fails_iff.1 harg)⟩

end Sys2Proof.Machine
end

section
/-! The obligation on the host's call of `reset()` between runs (spec/70_reset_and_hazards.md R101). -/
namespace Sys2Proof.Machine

/-- The host's call of `reset()` answers the power-on state, with the call taken from the queue. -/
theorem step_reset_call {s : State} {rest : List HostCall} (hb : BetweenRuns s) (hc : s.calls = .reset :: rest) :
    step s = .next { State.reset with calls := rest } := by
  rw [step_betweenRuns s hb, betweenRuns_reset hc]

/-- Settles O2: after the first call the status is Idle, so a second call is again one between runs, and what it answers
differs from what the first answered in the queue alone. -/
theorem resetCallRestoresPowerOnState : Obligations.ResetCallRestoresPowerOnState := by
  refine ⟨fun _ _ => step_reset_call, fun s rest hb hc => ?_⟩
  have first := step_reset_call hb hc
  have second : step { State.reset with calls := .reset :: rest } = .next { State.reset with calls := rest } :=
    step_reset_call (.inl rfl) rfl
  exact ⟨_, _, first, second, rfl⟩

end Sys2Proof.Machine
end

section
/-! The obligations on the decoder and the encoder (spec/30_encoding.md R50 to R58): every byte list is empty, a lone
`0xA9`, or the bytes of one instruction followed by the rest that `decode` leaves. -/
namespace Sys2Proof.Machine

/-- Settles O17: by the three kinds of instruction, each with the decoder's equation for its format. -/
theorem decodeInvertsEncode : Obligations.DecodeInvertsEncode := by
  intro i rest
  rcases instr_cases i with rfl | ⟨v, rfl⟩ | ⟨-, h9, hoperand⟩
  · exact decode_brk rest
  · exact decode_ldaImm v rest
  · rw [encode_of_operandBytes_nil hoperand]
    exact decode_opcode_cons i h9 rest

/-- An instruction is as long as its opcode byte says (R53). -/
theorem encode_length (i : Instr) : (encode i).length = instrLength i.opcode := by
  rcases instr_cases i with rfl | ⟨v, rfl⟩ | ⟨-, h9, hoperand⟩
  · rfl
  · rfl
  · rw [encode_of_operandBytes_nil hoperand, instrLength, if_neg h9]
    rfl

/-- A byte list is too short for its first instruction, or begins with the bytes of one (R58). -/
theorem bytes_cases (bytes : List Byte) :
    bytes = [] ∨ bytes = [0xA9] ∨ ∃ (i : Instr) (rest : List Byte), bytes = encode i ++ rest := by
  match bytes with
  | [] => exact .inl rfl
  | op :: tail =>
    by_cases h9 : op = 0xA9
    · subst h9
      match tail with
      | [] => exact .inr (.inl rfl)
      | v :: rest => exact .inr (.inr ⟨.ldaImm v, rest, rfl⟩)
    · obtain ⟨i, rfl, hoperand, -⟩ := decode_implied op h9
      exact .inr (.inr ⟨i, tail, by rw [encode_of_operandBytes_nil hoperand]; rfl⟩)

/-- What `decode` answers, and for which bytes: the two refusals, or an instruction whose bytes begin the list. -/
theorem decode_cases (bytes : List Byte) :
    (bytes = [] ∧ decode bytes = .error .noOpcode) ∨
    (bytes = [0xA9] ∧ decode bytes = .error .noOperand) ∨
    (∃ (i : Instr) (rest : List Byte), bytes = encode i ++ rest ∧ decode bytes = .ok (i, rest)) := by
  rcases bytes_cases bytes with rfl | rfl | ⟨i, rest, rfl⟩
  · exact .inl ⟨rfl, decode_nil⟩
  · exact .inr (.inl ⟨rfl, decode_truncated⟩)
  · exact .inr (.inr ⟨i, rest, rfl, decodeInvertsEncode i rest⟩)

/-- Settles O18: of the decoder's three answers only the last is an instruction. -/
theorem encodeInvertsDecode : Obligations.EncodeInvertsDecode := by
  intro bytes i rest h
  rcases decode_cases bytes with ⟨-, hdecode⟩ | ⟨-, hdecode⟩ | ⟨j, tail, hbytes, hdecode⟩
  all_goals cases h.symm.trans hdecode
  exact hbytes.symm

theorem decode_eq_noOpcode_iff (bytes : List Byte) : decode bytes = .error .noOpcode ↔ bytes = [] := by
  refine ⟨fun h => ?_, fun h => h ▸ decode_nil⟩
  rcases decode_cases bytes with ⟨hnil, -⟩ | ⟨-, hdecode⟩ | ⟨i, rest, -, hdecode⟩
  · exact hnil
  all_goals cases h.symm.trans hdecode

theorem decode_eq_noOperand_iff (bytes : List Byte) : decode bytes = .error .noOperand ↔ bytes = [0xA9] := by
  refine ⟨fun h => ?_, fun h => h ▸ decode_truncated⟩
  rcases decode_cases bytes with ⟨-, hdecode⟩ | ⟨hshort, -⟩ | ⟨i, rest, -, hdecode⟩
  case inr.inl => exact hshort
  all_goals cases h.symm.trans hdecode

/-- Settles O16: a list that is long enough is neither of the two short ones, so it begins with an instruction, whose
bytes are as many as its opcode byte says. -/
theorem everyByteSequenceDecodes : Obligations.EveryByteSequenceDecodes := by
  refine ⟨fun op tail hlong => ?_, decode_eq_noOpcode_iff, decode_eq_noOperand_iff⟩
  rcases decode_cases (op :: tail) with ⟨hnil, -⟩ | ⟨hshort, -⟩ | ⟨i, rest, hbytes, hdecode⟩
  · cases hnil
  · cases hshort
    exact absurd hlong (by decide)
  · obtain rfl : op = i.opcode := (List.cons.inj hbytes).1
    refine ⟨i, rfl, ?_⟩
    rw [hdecode, hbytes, ← encode_length, List.drop_left]

/-- Settles O14: each word by evaluating the decoder. -/
theorem knownWordsDecode : Obligations.KnownWordsDecode := by
  unfold Obligations.KnownWordsDecode
  decide

end Sys2Proof.Machine
end

section
/-! One step of a run as a value: which of five effects it has is read off the two bytes at `PC`, and the effect says what
it does to the state (spec/40_interpreter_loop.md R66 to R69, spec/60_exceptions.md R81, R82). Two states of runs can then
be compared by their effects, without going through the cases of the step twice. -/
namespace Sys2Proof.Machine

/-- The five things a step of a run does. -/
inductive RunEffect where
  /-- The opcode byte is not there (R81). -/
  | opcodeFault
  /-- The opcode byte is `0xA9` and its operand is not there (R82). -/
  | operandFault
  /-- `LDA #v` (R76). -/
  | load (v : Byte)
  /-- `BRK` (R75). -/
  | halt
  /-- One of the 254 one-byte no-ops (R77). -/
  | skip

/-- What the effect does to the state. -/
def RunEffect.apply : RunEffect → State → State
  | .opcodeFault, s => raiseOutOfBounds .opcode s
  | .operandFault, s => raiseOutOfBounds .operand (s.advance 1)
  | .load v, s => (s.advance 2).loadA v
  | .halt, s => (s.advance 1).halt
  | .skip, s => s.advance 1

/-- The effect, by what is read at `PC` and at the index after it. -/
def runEffect (opcode operand : Option Byte) : RunEffect :=
  match opcode with
  | none => .opcodeFault
  | some op =>
    if op = 0x00 then .halt
    else if op = 0xA9 then
      match operand with
      | none => .operandFault
      | some v => .load v
    else .skip

theorem runEffect_skip {op : Byte} (h0 : op ≠ 0x00) (h9 : op ≠ 0xA9) (operand : Option Byte) :
    runEffect (some op) operand = .skip := by
  simp only [runEffect, if_neg h0, if_neg h9]

/-- No effect depends on the byte after the opcode but that of `0xA9` (R53). -/
theorem runEffect_congr {opcode operand operand' : Option Byte} (h : opcode = some 0xA9 → operand' = operand) :
    runEffect opcode operand' = runEffect opcode operand := by
  match opcode with
  | none => rfl
  | some op =>
    by_cases h9 : op = 0xA9
    · rw [h (congrArg some h9)]
    · simp only [runEffect, if_neg h9]

/-- A step of a run answers what its effect makes of the state. -/
theorem step_running {s : State} (hr : s.status = .running) :
    step s = .next ((runEffect (memRead s s.pc.toNat) (memRead s (s.pc.toNat + 1))).apply s) := by
  rcases step_running_cases s hr with
    ⟨hop, hstep⟩ | ⟨hop, harg, hstep⟩ | ⟨v, hop, harg, hstep⟩ | ⟨hop, hstep⟩ | ⟨op, hop, h0, h9, hstep⟩
  · rw [hstep, hop]; rfl
  · rw [hstep, hop, harg]; rfl
  · rw [hstep, hop, harg, State.advance_advance]; rfl
  · rw [hstep, hop]; rfl
  · rw [hstep, hop, runEffect_skip h0 h9]; rfl

/-- Two states of runs that read the same bytes at `PC` step with one effect. -/
theorem step_running_pair {s s' : State} (hr : s.status = .running) (hr' : s'.status = .running)
    (hop : memRead s' s'.pc.toNat = memRead s s.pc.toNat)
    (harg : memRead s s.pc.toNat = some 0xA9 → memRead s' (s'.pc.toNat + 1) = memRead s (s.pc.toNat + 1)) :
    ∃ e : RunEffect, step s = .next (e.apply s) ∧ step s' = .next (e.apply s') :=
  ⟨_, step_running hr, by rw [step_running hr', hop, runEffect_congr harg]⟩

/-- No effect reads or writes the image. -/
theorem RunEffect.apply_with_image (e : RunEffect) (s : State) (other : Option Memory) :
    e.apply { s with image := other } = { e.apply s with image := other } := by
  cases e <;> rfl

/-- No effect reads or writes the host's queue. -/
theorem RunEffect.apply_with_calls (e : RunEffect) (s : State) (cs : List HostCall) :
    e.apply { s with calls := cs } = { e.apply s with calls := cs } := by
  cases e <;> rfl

/-- Where an effect leads, and the `A` it leaves, depend on no other register. -/
theorem RunEffect.apply_control (e : RunEffect) {s s' : State} (himage : s.image = s'.image) (hpc : s.pc = s'.pc)
    (hstatus : s.status = s'.status) :
    (e.apply s).image = (e.apply s').image ∧ (e.apply s).pc = (e.apply s').pc ∧
    (e.apply s).status = (e.apply s').status ∧ (s.a = s'.a → (e.apply s).a = (e.apply s').a) := by
  cases e <;> simp [RunEffect.apply, himage, hpc, hstatus]

/-- Settles O11: the other image gives the same bytes, so the same effect, and no effect touches the image. -/
theorem stepReadsOnlyItsOwnBytes : Obligations.StepReadsOnlyItsOwnBytes := by
  intro s other hr hop harg
  obtain ⟨e, hstep, hstep'⟩ := step_running_pair (s' := { s with image := other }) hr hr hop harg
  exact ⟨_, hstep, by rw [hstep', e.apply_with_image]⟩

/-- Settles O33: the same image and `PC` give the same bytes, so the same effect. -/
theorem registersDoNotInfluenceControl : Obligations.RegistersDoNotInfluenceControl := by
  intro s s' hr hr' himage hpc
  have hread (k : Nat) : memRead s' k = memRead s k := by simp only [memRead, himage]
  obtain ⟨e, hstep, hstep'⟩ := step_running_pair hr hr' (by rw [hread, hpc]) (fun _ => by rw [hread, hpc])
  exact ⟨_, _, hstep, hstep', e.apply_control himage hpc (hr.trans hr'.symm)⟩

/-- Settles O42: the queue is no part of what is read, so the effect is the same, and no effect touches the queue. -/
theorem hostHasNoMoveDuringRun : Obligations.HostHasNoMoveDuringRun := by
  intro s hr
  refine ⟨_, step_running hr, (keepsFrame_step hr (step_running hr)).calls, fun cs => ?_⟩
  rw [step_running (s := { s with calls := cs }) hr, RunEffect.apply_with_calls]
  rfl

/-- Of the five effects the load alone writes `A` and `P`, and only `0xA9` has it. -/
theorem runEffect_keeps_a_p {opcode : Option Byte} (h9 : opcode ≠ some 0xA9) (operand : Option Byte) (s : State) :
    ((runEffect opcode operand).apply s).a = s.a ∧ ((runEffect opcode operand).apply s).p = s.p := by
  match opcode with
  | none => exact ⟨rfl, rfl⟩
  | some op =>
    by_cases h0 : op = 0x00
    · subst h0
      exact ⟨rfl, rfl⟩
    · rw [runEffect_skip h0 (fun h => h9 (congrArg some h))]
      exact ⟨rfl, rfl⟩

/-- Settles O25: every step of a run keeps the frame, and `A` and `P` are written by the load alone. -/
theorem runningStepFrame : Obligations.RunningStepFrame := by
  intro s hr
  have hstep := step_running hr
  have frame := keepsFrame_step hr hstep
  exact ⟨_, hstep, frame.x, frame.y, frame.sp, frame.image, frame.calls, frame.memRead, frame.flags,
    fun h9 => runEffect_keeps_a_p h9 _ s⟩

end Sys2Proof.Machine
end
section
/-! The obligations on the flag byte as a whole (spec/10_state.md section 2, and the closed form of section 3). -/
namespace Sys2Proof.Machine

/-- Settles O3: the positions are the definition's; no two flags share one, each has its mask, and the eight leave no bit
of a byte unnamed. -/
theorem flagPositionsAreTheEightBits : Obligations.FlagPositionsAreTheEightBits := by
  refine ⟨rfl, rfl, rfl, rfl, rfl, rfl, rfl, rfl, fun k hk => ?oneFlag, fun f => ?mask, fun _ _ => eq_of_testFlag_eq⟩
  case oneFlag =>
    obtain ⟨f, rfl⟩ := StatusFlag.exists_position_eq k hk
    exact ⟨f, rfl, fun g => StatusFlag.position_injective⟩
  case mask => cases f <;> rfl

/-- `SetZN` as one assignment (spec/10_state.md section 3): bit 7 is the high bit of the value, bit 1 says whether it is
0, and every other bit is the old one. -/
theorem setZN_eq_closedForm (p v : Byte) :
    setZN p v = (p &&& 0x7D) ||| (if v = 0x00 then 0x02 else 0x00) ||| (v &&& 0x80) := by
  refine BitVec.eq_of_getLsbD_eq fun k hk => ?_
  rw [setZN_getLsbD]
  by_cases hv : v = 0x00
  · rw [if_pos hv, hv]
    interval_cases k <;> simp
  · rw [if_neg hv, beq_false_of_ne hv]
    interval_cases k <;> simp

/-- Settles O7: the two sides agree bit by bit; and a value that sets Zero is 0, whose high bit is clear. -/
theorem setZnClosedForm : Obligations.SetZnClosedForm := by
  refine fun p v => ⟨setZN_eq_closedForm p v, fun ⟨hz, hn⟩ => ?_⟩
  rw [testFlag_setZN_zero, beq_iff_eq] at hz
  rw [testFlag_setZN_negative, hz] at hn
  exact absurd hn (by decide)

end Sys2Proof.Machine
end

section
/-! The obligations on power-on and on the host's read of the registers (spec/10_state.md sections 5 and 6). -/
namespace Sys2Proof.Machine

/-- Of the power-on flags Interrupt-disable and Unused alone are set (spec/10_state.md R26). -/
theorem testFlag_powerOn (f : StatusFlag) : testFlag 0x24 f = (f == .i || f == .u) := by
  cases f <;> decide

/-- Settles O1: `reset()` writes the power-on values whatever the state held. -/
theorem powerOnAndResetValues : Obligations.PowerOnAndResetValues :=
  ⟨⟨rfl, rfl, rfl, rfl, rfl, testFlag_powerOn, rfl, rfl, rfl⟩,
    fun _ => ⟨rfl, rfl, rfl, rfl, rfl, testFlag_powerOn, rfl, rfl, rfl⟩⟩

theorem observe_of_betweenRuns {s : State} (h : BetweenRuns s) : observe s = some s.registers := by
  rcases h with h | h <;> simp only [observe, h]

theorem observe_of_not_betweenRuns {s : State} (h : ¬BetweenRuns s) : observe s = none := by
  cases hs : s.status with
  | idle => exact absurd (.inl hs) h
  | halted => exact absurd (.inr hs) h
  | running => simp only [observe, hs]
  | fault r => simp only [observe, hs]

/-- Settles O8: the four statuses are two between runs and two that are not. -/
theorem hostReadsRegistersBetweenRuns : Obligations.HostReadsRegistersBetweenRuns := fun _ =>
  ⟨observe_of_betweenRuns, observe_of_not_betweenRuns⟩

end Sys2Proof.Machine
end

section
/-! The obligations on the register values that occur (spec/10_state.md sections 1, 2 and 6). -/
namespace Sys2Proof.Machine

/-- Settles O9: the power-on values are the first of the three. -/
theorem registerValuesHoldAtPowerOn : Obligations.RegisterValuesHoldAtPowerOn :=
  ⟨rfl, rfl, rfl, .inl ⟨rfl, rfl⟩⟩

/-- The three values of `P` differ in Zero and Negative alone. -/
theorem RegisterInv.p_masked {s : State} (h : RegisterInv s) : s.p &&& 0x7D = 0x24 := by
  rcases h.p with ⟨hp, -⟩ | ⟨hp, -⟩ | ⟨hp, -⟩ <;> rw [hp] <;> rfl

/-- `SetZN` of a value makes `P` agree with that value in `A`. -/
theorem RegisterInv.setZN_cases {s : State} (h : RegisterInv s) (v : Byte) :
    (setZN s.p v = 0x24 ∧ v.getLsbD 7 = false) ∨ (setZN s.p v = 0x26 ∧ v = 0x00) ∨
    (setZN s.p v = 0xA4 ∧ v.getLsbD 7 = true) := by
  rw [setZN_eq_closedForm, h.p_masked]
  revert v
  decide

/-- The register invariant speaks of `X`, `Y`, `SP`, `A` and `P` alone. -/
theorem RegisterInv.of_eq {s t : State} (h : RegisterInv s) (hx : t.x = s.x) (hy : t.y = s.y) (hsp : t.sp = s.sp)
    (ha : t.a = s.a) (hp : t.p = s.p) : RegisterInv t where
  x := hx.trans h.x
  y := hy.trans h.y
  sp := hsp.trans h.sp
  p := by rw [ha, hp]; exact h.p

/-- Loading a value leaves `P` in agreement with it. -/
theorem RegisterInv.loadA {s : State} (h : RegisterInv s) (v : Byte) : RegisterInv (s.loadA v) :=
  ⟨h.x, h.y, h.sp, h.setZN_cases v⟩

/-- Of the five effects of a step of a run the load alone writes `A` and `P`. -/
theorem RegisterInv.apply {s : State} (h : RegisterInv s) (e : RunEffect) : RegisterInv (e.apply s) := by
  cases e
  case load v => exact (h.of_eq rfl rfl rfl rfl rfl : RegisterInv (s.advance 2)).loadA v
  all_goals exact h.of_eq rfl rfl rfl rfl rfl

/-- Settles O10: every effect of a step of a run keeps the invariant; between runs `reset()` gives the power-on values,
and the start of a run writes none of the five registers. -/
theorem everyStepKeepsRegisterValues : Obligations.EveryStepKeepsRegisterValues := by
  intro s t hinv h
  rcases step_next_cases h with hr | ⟨-, hturn⟩
  · cases h.symm.trans (step_running hr)
    exact hinv.apply _
  · rcases betweenRuns_next_cases hturn with ⟨-, rfl⟩ | ⟨rest, -, rfl⟩ | ⟨program, rest, -, -, rfl⟩
    · exact hinv
    · exact registerValuesHoldAtPowerOn.of_eq rfl rfl rfl rfl rfl
    · exact hinv.of_eq rfl rfl rfl rfl rfl

end Sys2Proof.Machine
end

section
/-! `PC` as a natural number over one step of a run that meets the machine's invariant (spec/40_interpreter_loop.md
section 3, spec/60_exceptions.md section 2): it never wraps, it moves by whole instructions within the image, and a fault
leaves it at `L`. -/
namespace Sys2Proof.Machine

theorem instrLength_of_ne {op : Byte} (h9 : op ≠ 0xA9) : instrLength op = 1 := if_neg h9

/-- Within an admitted image the advance does not wrap (R72). -/
theorem ImageAdmitted.advance_pc_toNat {m : Memory} (hadm : ImageAdmitted m) {s : State} {n : Nat}
    (hn : s.pc.toNat + n ≤ m.length) : (s.advance n).pc.toNat = s.pc.toNat + n :=
  s.advance_pc_toNat n (by have := hadm.length_le; omega)

/-- A step of a run that meets the invariant fails its opcode fetch with `PC` at `L`, or fails its operand read with `PC`
coming to be `L`, or moves `PC` past an instruction that lies within the image. -/
theorem Inv.step_pc_cases {s t : State} {m : Memory} (hi : Inv s) (hr : s.status = .running)
    (hm : s.image = some m) (h : step s = .next t) :
    (memRead s s.pc.toNat = none ∧ t = raiseOutOfBounds .opcode s ∧ s.pc.toNat = m.length) ∨
    (memRead s s.pc.toNat = some 0xA9 ∧ t = raiseOutOfBounds .operand (s.advance 1) ∧
      (s.advance 1).pc.toNat = m.length) ∨
    (∃ op, memRead s s.pc.toNat = some op ∧ t.pc.toNat = s.pc.toNat + instrLength op ∧ t.pc.toNat ≤ m.length ∧
      (op = 0x00 ∧ t.status = .halted ∨ t.status = .running)) := by
  have hadm := hi.image m hm
  have hwf : m.wf = true := hadm.1
  have read_lt {k : Nat} {b : Byte} (hk : memRead s k = some b) : k < m.length :=
    Memory.lt_length_of_read hwf ((memRead_of_image hm k).symm.trans hk)
  have past {n : Nat} (hn : s.pc.toNat + n ≤ m.length) :
      (s.advance n).pc.toNat = s.pc.toNat + n ∧ (s.advance n).pc.toNat ≤ m.length := by
    rw [hadm.advance_pc_toNat hn]
    exact ⟨rfl, hn⟩
  rcases step_running_cases s hr with
    ⟨hop, hstep⟩ | ⟨hop, harg, hstep⟩ | ⟨v, hop, harg, hstep⟩ | ⟨hop, hstep⟩ | ⟨op, hop, -, h9, hstep⟩
  all_goals obtain rfl := Host.Outcome.next.inj (h.symm.trans hstep)
  · have hend := (memRead_eq_none_iff hm hwf _).1 hop
    exact .inl ⟨hop, rfl, Nat.le_antisymm (hi.pc_le_length hr hm) hend⟩
  · have hend := (memRead_eq_none_iff hm hwf _).1 harg
    have hlt := read_lt hop
    exact .inr (.inl ⟨hop, rfl, (past hlt).1.trans (Nat.le_antisymm hlt hend)⟩)
  · obtain ⟨hpc, hle⟩ := past (n := 2) (read_lt harg)
    rw [State.advance_advance]
    exact .inr (.inr ⟨0xA9, hop, hpc, hle, .inr hr⟩)
  · obtain ⟨hpc, hle⟩ := past (n := 1) (read_lt hop)
    exact .inr (.inr ⟨0x00, hop, hpc, hle, .inl ⟨rfl, rfl⟩⟩)
  · obtain ⟨hpc, hle⟩ := past (n := 1) (read_lt hop)
    exact .inr (.inr ⟨op, hop, by rw [instrLength_of_ne h9]; exact hpc, hle, .inr hr⟩)

/-- Settles O26: where the byte at `PC` is there and the step does not fault, the instruction lies within the image. -/
theorem pcAdvancesByInstructionLength : Obligations.PcAdvancesByInstructionLength := by
  intro s t op hi hr h hop hnofault
  obtain ⟨m, hm, -, -⟩ := hi.running hr
  rcases hi.step_pc_cases hr hm h with ⟨-, rfl, -⟩ | ⟨-, rfl, -⟩ | ⟨op', hop', hpc, hle, -⟩
  · exact absurd rfl (hnofault _)
  · exact absurd rfl (hnofault _)
  · cases hop.symm.trans hop'
    exact ⟨hpc, imageLength_of_image hm ▸ hle⟩

/-- Under the invariant a step of a run that ends in Fault leaves `PC` at `L`. -/
theorem Inv.fault_pc_eq_imageLength {s t : State} {r : OutOfBounds} (hi : Inv s) (hr : s.status = .running)
    (h : step s = .next t) (ht : t.status = .fault r) : t.pc.toNat = s.imageLength := by
  obtain ⟨m, hm, -, -⟩ := hi.running hr
  rw [imageLength_of_image hm]
  rcases hi.step_pc_cases hr hm h with ⟨-, rfl, hpc⟩ | ⟨-, rfl, hpc⟩ | ⟨_, -, -, -, ⟨-, hstatus⟩ | hstatus⟩
  · exact hpc
  · exact hpc
  all_goals cases ht.symm.trans hstatus

/-- Settles O39: a step that faults is one of the two failed reads, and both write the status and `PC` alone. -/
theorem faultKeepsRegisters : Obligations.FaultKeepsRegisters := by
  intro s t r hr h ht
  have pc_at_end (hi : Inv s) := hi.fault_pc_eq_imageLength hr h ht
  rcases step_running_fault_cases hr h ht with ⟨-, rfl⟩ | ⟨-, -, rfl⟩
  · cases ht
    exact ⟨rfl, rfl, rfl, rfl, rfl, rfl, .inl ⟨rfl, rfl⟩, rfl, pc_at_end⟩
  · cases ht
    exact ⟨rfl, rfl, rfl, rfl, rfl, rfl, .inr ⟨rfl, rfl⟩, rfl, pc_at_end⟩

end Sys2Proof.Machine
end

section
/-! The machine's invariant: it holds at power-on, and every step keeps it (spec/40_interpreter_loop.md section 3,
spec/60_exceptions.md section 2, spec/70_reset_and_hazards.md section 3). -/
namespace Sys2Proof.Machine

theorem inv_of_idle {s : State} (hs : s.status = .idle) (himage : s.image = none)
    (hregs : s.registers = State.reset.registers) : Inv s where
  image m hm := by cases himage.symm.trans hm
  status := by
    simp only [StatusConsistent, hs]
    exact ⟨himage, hregs⟩

/-- With an admitted image bound, the invariant is what the status says of `PC`. -/
theorem inv_of_image {s : State} {m : Memory} (hm : s.image = some m) (hadm : ImageAdmitted m)
    (hstatus : StatusConsistent s) : Inv s where
  image m' hm' := by
    cases hm.symm.trans hm'
    exact hadm
  status := hstatus

theorem statusConsistent_of_running {s : State} {m : Memory} (hm : s.image = some m) (hs : s.status = .running)
    (hpc : s.pc.toNat ≤ m.length) : StatusConsistent s := by
  simpa [StatusConsistent, hs, hm, imageLength_of_image hm] using hpc

theorem statusConsistent_of_halted {s : State} {k : Nat} (hs : s.status = .halted) (hread : memRead s k = some 0x00)
    (hpc : s.pc.toNat = k + 1) : StatusConsistent s := by
  simp only [StatusConsistent, hs]
  exact ⟨k, hread, hpc⟩

/-- Taking the exception with `PC` at `L` leaves what Fault asks for. -/
theorem statusConsistent_raiseOutOfBounds {s : State} {m : Memory} (kind : AccessKind) (hm : s.image = some m)
    (hpc : s.pc.toNat = m.length) : StatusConsistent (raiseOutOfBounds kind s) := by
  simpa [StatusConsistent, hm, imageLength_of_image hm] using hpc

/-- Settles O28: power-on binds no image, and its registers are those Idle asks for. -/
theorem invariantHoldsAtPowerOn : Obligations.InvariantHoldsAtPowerOn :=
  inv_of_idle rfl rfl rfl

/-- The start of a run with an admitted program meets the invariant, whatever the state before it. -/
theorem inv_startRun {program : List Byte} (hlen : program.length ≤ 65535) (s : State) : Inv (startRun program s) :=
  inv_of_image rfl (.ofBytes hlen) (statusConsistent_of_running rfl rfl (Nat.zero_le _))

/-- A step of a run keeps the image, and each of the three ways it goes leaves what the new status asks for. -/
theorem Inv.step_running {s t : State} (hi : Inv s) (hr : s.status = .running) (h : step s = .next t) : Inv t := by
  obtain ⟨m, hm, hadm, -⟩ := hi.running hr
  have frame := keepsFrame_step hr h
  have hmt : t.image = some m := frame.image.trans hm
  refine inv_of_image hmt hadm ?_
  rcases hi.step_pc_cases hr hm h with ⟨-, rfl, hpc⟩ | ⟨-, rfl, hpc⟩ | ⟨op, hop, hpc, hle, ⟨rfl, hs⟩ | hs⟩
  · exact statusConsistent_raiseOutOfBounds .opcode hm hpc
  · exact statusConsistent_raiseOutOfBounds .operand hm hpc
  · exact statusConsistent_of_halted hs ((frame.memRead _).trans hop) hpc
  · exact statusConsistent_of_running hmt hs hle

/-- An invariant of the status, the image and the registers does not speak of the host's queue. -/
theorem Inv.with_calls {s : State} (hi : Inv s) (cs : List HostCall) : Inv { s with calls := cs } :=
  ⟨hi.image, hi.status⟩

/-- Settles O29: a step of a run by the cases of `PC`; between runs the state stays, is the power-on state, or is the
start of a run. -/
theorem everyStepKeepsInvariant : Obligations.EveryStepKeepsInvariant := by
  intro s t hi h
  rcases step_next_cases h with hr | ⟨-, hturn⟩
  · exact hi.step_running hr h
  · rcases betweenRuns_next_cases hturn with ⟨-, rfl⟩ | ⟨rest, -, rfl⟩ | ⟨program, rest, -, hlen, rfl⟩
    · exact hi
    · exact invariantHoldsAtPowerOn.with_calls rest
    · exact inv_startRun hlen _

end Sys2Proof.Machine
end

section
/-! Instruction boundaries (spec/30_encoding.md R54): every opcode fetch is at one, from power-on on. -/
namespace Sys2Proof.Machine

/-- Settles O19: no image is bound. -/
theorem boundariesHoldAtPowerOn : Obligations.BoundariesHoldAtPowerOn :=
  fun _ h => (by cases h)

/-- In a run `PC` moves from a boundary past the instruction there, which is the next boundary. -/
theorem BoundaryInv.step_running {s t : State} (hb : BoundaryInv s) (hi : Inv s) (hr : s.status = .running)
    (h : step s = .next t) : BoundaryInv t := by
  intro m hmt
  have hm : s.image = some m := (keepsFrame_step hr h).image.symm.trans hmt
  have here : InstrBoundary m s.pc.toNat := (hb m hm).1 hr
  rcases hi.step_pc_cases hr hm h with ⟨-, rfl, -⟩ | ⟨-, rfl, -⟩ | ⟨op, hop, hpc, -, hstatus⟩
  · exact ⟨fun hs => (by cases hs), fun hs => (by cases hs)⟩
  · exact ⟨fun hs => (by cases hs), fun hs => (by cases hs)⟩
  · rw [memRead_of_image hm] at hop
    refine ⟨fun _ => hpc ▸ .after _ op here hop, fun hs => ?_⟩
    rcases hstatus with ⟨rfl, -⟩ | hrt
    · exact ⟨_, here, hop, hpc⟩
    · cases hs.symm.trans hrt

theorem boundaryInv_startRun (program : List Byte) (s : State) : BoundaryInv (startRun program s) :=
  fun _ _ => ⟨fun _ => .entry, fun hs => (by cases hs)⟩

/-- Settles O20: a step of a run goes from boundary to boundary; between runs the state stays, drops its image, or is the
start of a run at index 0. -/
theorem everyStepStaysOnBoundaries : Obligations.EveryStepStaysOnBoundaries := by
  intro s t hi hb h
  rcases step_next_cases h with hr | ⟨-, hturn⟩
  · exact hb.step_running hi hr h
  · rcases betweenRuns_next_cases hturn with ⟨-, rfl⟩ | ⟨rest, -, rfl⟩ | ⟨program, rest, -, -, rfl⟩
    · exact hb
    · exact boundariesHoldAtPowerOn
    · exact boundaryInv_startRun program _

end Sys2Proof.Machine
end

section
/-! The host's turn and where the machine stops (spec/60_exceptions.md, spec/70_reset_and_hazards.md section 3). -/
namespace Sys2Proof.Machine

/-- A call of `interpret` with an admitted program answers the start of its run (R65). -/
theorem step_interpret_call {s : State} {program : List Byte} {rest : List HostCall} (hb : BetweenRuns s)
    (hc : s.calls = .interpret program :: rest) (hlen : program.length ≤ 65535) :
    step s = .next (startRun program { s with calls := rest }) := by
  rw [step_betweenRuns s hb, betweenRuns_interpret hc hlen]

/-- A call of `interpret` with a longer program is refused (R34). -/
theorem step_interpret_call_refused {s : State} {program : List Byte} {rest : List HostCall} (hb : BetweenRuns s)
    (hc : s.calls = .interpret program :: rest) (hlen : 65535 < program.length) :
    step s = .refused .imageTooLong := by
  rw [step_betweenRuns s hb, betweenRuns_interpret_refused hc hlen]

/-- Settles O22: the start of the run is this one record update. -/
theorem interpretCallStartsRun : Obligations.InterpretCallStartsRun :=
  fun _ _ _ hb hc hlen => step_interpret_call hb hc hlen

/-- In an empty image no index can be read. -/
theorem step_startRun_nil (s : State) :
    step (startRun [] s) = .next (raiseOutOfBounds .opcode (startRun [] s)) :=
  step_opcode_missing rfl rfl

/-- Settles O12: the length alone decides the call, and a run of the empty image fails its first fetch. -/
theorem imageLengthIsBoundedAtRunStart : Obligations.ImageLengthIsBoundedAtRunStart := by
  refine fun s program rest hb hc => ⟨fun hlen => ?starts, step_interpret_call_refused hb hc, ?empty⟩
  case starts => exact ⟨_, step_interpret_call hb hc hlen, rfl⟩
  case empty =>
    rintro rfl
    exact ⟨_, step_interpret_call hb hc (Nat.zero_le _), step_startRun_nil _, rfl⟩

/-- Settles O13: a step of a run keeps the frame, and the host's turn has its three cases. -/
theorem imageChangesOnlyBetweenRuns : Obligations.ImageChangesOnlyBetweenRuns := by
  intro s t h
  rcases step_next_cases h with hr | ⟨hb, hturn⟩
  · have frame := keepsFrame_step hr h
    exact .inl ⟨hr, frame.image, frame.calls⟩
  · rcases betweenRuns_next_cases hturn with ⟨hc, rfl⟩ | ⟨rest, hc, rfl⟩ | ⟨program, rest, hc, -, rfl⟩
    · exact .inr (.inl ⟨hb, hc, rfl⟩)
    · exact .inr (.inr (.inl ⟨hb, ⟨rest, hc, rfl⟩, rfl, rfl⟩))
    · exact .inr (.inr (.inr ⟨hb, program, rest, hc, rfl, rfl, rfl⟩))

theorem step_idle {s : State} (hb : BetweenRuns s) (hc : s.calls = []) : step s = .next s := by
  rw [step_betweenRuns s hb, betweenRuns, hc]

/-- Settles O43: by induction on the number of steps, each of which answers the state it began in. -/
theorem coreIdlesBetweenRuns : Obligations.CoreIdlesBetweenRuns := by
  intro s n hb hc
  induction n with
  | zero => exact run_zero s
  | succ n ih => exact (run_succ (step_idle hb hc) n).trans ih

/-- Settles O40: the first step already stops, and Fault is no state between runs. -/
theorem faultIsTerminal : Obligations.FaultIsTerminal := by
  intro s r hs
  refine ⟨fun n => run_fault (step_fault s r hs) n, observe_of_not_betweenRuns ?_⟩
  rintro (h | h) <;> cases hs.symm.trans h

/-- Everything the machine can do between runs: answer a next state, or refuse a program that is too long. -/
theorem step_betweenRuns_cases {s : State} (hb : BetweenRuns s) :
    (∃ t, step s = .next t) ∨
    (∃ program rest, s.calls = .interpret program :: rest ∧ 65535 < program.length ∧
      step s = .refused .imageTooLong) := by
  match hc : s.calls with
  | [] => exact .inl ⟨_, step_idle hb hc⟩
  | .reset :: rest => exact .inl ⟨_, step_reset_call hb hc⟩
  | .interpret program :: rest =>
    rcases Nat.lt_or_ge 65535 program.length with hlong | hlen
    · exact .inr ⟨program, rest, rfl, hlong, step_interpret_call_refused hb hc hlong⟩
    · exact .inl ⟨_, step_interpret_call hb hc hlen⟩

/-- The three outcomes of a step, and the state each one comes from. -/
theorem step_cases (s : State) :
    (∃ t, step s = .next t) ∨
    (∃ r, s.status = .fault r ∧ step s = .fault (.outOfBounds r.kind r.addr)) ∨
    (BetweenRuns s ∧ ∃ program rest, s.calls = .interpret program :: rest ∧ 65535 < program.length ∧
      step s = .refused .imageTooLong) := by
  cases hs : s.status with
  | running => exact .inl ⟨_, step_running hs⟩
  | fault r => exact .inr (.inl ⟨r, rfl, step_fault s r hs⟩)
  | idle => exact (step_betweenRuns_cases (.inl hs)).imp id fun h => .inr ⟨.inl hs, h⟩
  | halted => exact (step_betweenRuns_cases (.inr hs)).imp id fun h => .inr ⟨.inr hs, h⟩

/-- Settles O41: each outcome of a step comes from one kind of state, and that state gives the outcome. -/
theorem machineStopsOnlyWhereStated : Obligations.MachineStopsOnlyWhereStated := by
  intro s
  refine ⟨⟨?faulted, fun ⟨r, hs⟩ => ⟨_, step_fault s r hs⟩⟩, ?reason,
    ⟨?refused, fun ⟨hb, program, rest, hc, hlong⟩ => ⟨_, step_interpret_call_refused hb hc hlong⟩⟩⟩
  case faulted =>
    rintro ⟨f, h⟩
    rcases step_cases s with ⟨t, hstep⟩ | ⟨r, hs, -⟩ | ⟨-, _, _, -, -, hstep⟩
    case inr.inl => exact ⟨r, hs⟩
    all_goals cases h.symm.trans hstep
  case reason =>
    intro f h
    rcases step_cases s with ⟨t, hstep⟩ | ⟨r, -, hstep⟩ | ⟨-, _, _, -, -, hstep⟩
    all_goals cases h.symm.trans hstep
    rfl
  case refused =>
    rintro ⟨f, h⟩
    rcases step_cases s with ⟨t, hstep⟩ | ⟨r, -, hstep⟩ | ⟨hb, program, rest, hc, hlong, -⟩
    case inr.inr => exact ⟨hb, program, rest, hc, hlong⟩
    all_goals cases h.symm.trans hstep

end Sys2Proof.Machine
end

section
/-! The step of a run in terms of the bytes that lie ahead of it, from `PC` to the end of the image: the decoded instruction
is the one that is executed (spec/40_interpreter_loop.md section 2). -/
namespace Sys2Proof.Machine

/-- On a canonical image a read at or after `PC` is an access to the bytes ahead. -/
theorem memRead_ahead {s : State} {m : Memory} (hm : s.image = some m) (hwf : m.wf = true) (k : Nat) :
    memRead s (s.pc.toNat + k) = (m.toBytes.drop s.pc.toNat)[k]? := by
  rw [memRead_of_image hm, m.read_of_wf hwf, List.getElem?_drop]

/-- Settles O21: the bytes ahead begin with the instruction's own, and a step that reads those is its `exec`. -/
theorem stepRunsDecodedInstruction : Obligations.StepRunsDecodedInstruction := by
  intro s m i rest hr hm hwf _ hdecode
  have ahead (k : Nat) : memRead s (s.pc.toNat + k) = (encode i ++ rest)[k]? := by
    rw [encodeInvertsDecode _ i rest hdecode, memRead_ahead hm hwf]
  have hop : memRead s s.pc.toNat = some i.opcode := ahead 0
  rcases instr_cases i with rfl | ⟨v, rfl⟩ | ⟨h0, h9, -⟩
  · rw [step_brk hr hop, exec_brk]
  · exact step_ldaImm hr hop (ahead 1)
  · rw [step_unimplemented hr hop h0 h9, exec_unimplemented i h0 h9]

end Sys2Proof.Machine
end

section
/-! Whole runs (spec/40_interpreter_loop.md sections 2 and 3): one step of a run is one turn of the reference reading
`interpretFrom` on the bytes ahead, and as these get fewer with each step, the run ends where that reading does. -/
namespace Sys2Proof.Machine

/-- A run in progress that meets the invariant and has these bytes ahead, from `PC` to the end of its image. -/
structure RunningAt (s : State) (bytes : List Byte) : Prop where
  inv : Inv s
  running : s.status = .running
  ahead : ∃ m, s.image = some m ∧ m.toBytes.drop s.pc.toNat = bytes

theorem RunningAt.read {s : State} {bytes : List Byte} (h : RunningAt s bytes) (k : Nat) :
    memRead s (s.pc.toNat + k) = bytes[k]? := by
  obtain ⟨m, hm, rfl⟩ := h.ahead
  exact memRead_ahead hm (h.inv.image m hm).1 k

/-- A step after which the run is still in progress leaves ahead what follows the instruction at `PC`. -/
theorem RunningAt.next {s t : State} {op : Byte} {tail : List Byte} (h : RunningAt s (op :: tail))
    (hstep : step s = .next t) (ht : t.status = .running) : RunningAt t ((op :: tail).drop (instrLength op)) := by
  obtain ⟨m, hm, hahead⟩ := h.ahead
  refine ⟨h.inv.step_running h.running hstep, ht, m, (keepsFrame_step h.running hstep).image.trans hm, ?_⟩
  rcases h.inv.step_pc_cases h.running hm hstep with ⟨-, rfl, -⟩ | ⟨-, rfl, -⟩ | ⟨op', hop, hpc, -, -⟩
  · cases ht
  · cases ht
  · cases hop.symm.trans (h.read 0)
    rw [hpc, ← List.drop_drop, hahead]

/-- One step of the machine against one turn of the reference reading: both end the run, in one state, or the reading goes
on as it would from the state after the step, with fewer bytes ahead. -/
theorem RunningAt.step_interpretFrom {s : State} {bytes : List Byte} (h : RunningAt s bytes) :
    (step s = .next (interpretFrom bytes s) ∧ Ended (interpretFrom bytes s)) ∨
    (∃ t rest, step s = .next t ∧ RunningAt t rest ∧ rest.length < bytes.length ∧
      interpretFrom bytes s = interpretFrom rest t) := by
  have hr := h.running
  have hop : memRead s s.pc.toNat = bytes[0]? := h.read 0
  match bytes with
  | [] => exact .inl ⟨step_opcode_missing hr hop, .inr ⟨_, rfl⟩⟩
  | op :: tail =>
    by_cases h0 : op = 0x00
    · subst h0
      rw [interpretFrom_brk]
      exact .inl ⟨step_brk hr hop, .inl rfl⟩
    by_cases h9 : op = 0xA9
    · subst h9
      have harg := h.read 1
      match tail with
      | [] => exact .inl ⟨step_ldaImm_truncated hr hop harg, .inr ⟨_, rfl⟩⟩
      | v :: rest =>
        have hstep := (step_ldaImm hr hop harg).trans (exec_ldaImm_eq v s)
        exact .inr ⟨_, rest, hstep, h.next hstep hr, by simp, by rw [interpretFrom_ldaImm, setZN_eq_closedForm]⟩
    · have hstep := step_unimplemented hr hop h0 h9
      have hnext := h.next hstep hr
      rw [instrLength_of_ne h9] at hnext
      exact .inr ⟨_, tail, hstep, hnext, by simp, interpretFrom_unimplemented op h0 h9 tail s⟩

/-- A run ends in the state the reference reading gives, after at most one step more than there are bytes ahead. -/
theorem RunningAt.run_to_end {s : State} {bytes : List Byte} (h : RunningAt s bytes) :
    ∃ n, 1 ≤ n ∧ n ≤ bytes.length + 1 ∧ core.run n s = .next (interpretFrom bytes s) ∧
      Ended (interpretFrom bytes s) := by
  rcases h.step_interpretFrom with ⟨hstep, hended⟩ | ⟨t, rest, hstep, hnext, hlt, heq⟩
  · exact ⟨1, le_rfl, Nat.le_add_left 1 _, (run_succ hstep 0).trans (run_zero _), hended⟩
  · obtain ⟨n, -, hle, hrun, hended⟩ := hnext.run_to_end
    rw [heq]
    exact ⟨n + 1, Nat.le_add_left 1 n, by omega, (run_succ hstep n).trans hrun, hended⟩
termination_by bytes.length

theorem Inv.runningAt {s : State} {m : Memory} (hi : Inv s) (hr : s.status = .running) (hm : s.image = some m) :
    RunningAt s (m.toBytes.drop s.pc.toNat) :=
  ⟨hi, hr, m, hm, rfl⟩

/-- There are `L - PC` bytes ahead. -/
theorem Memory.length_drop_toBytes (m : Memory) (k : Nat) : (m.toBytes.drop k).length = m.length - k := by
  rw [List.length_drop, Memory.toBytes_length]

/-- Settles O31: the run to its end, on the bytes from `PC` on. -/
theorem runAgreesWithInterpreterLoop : Obligations.RunAgreesWithInterpreterLoop := by
  intro s m hi hr hm
  obtain ⟨n, hpos, hle, hrun, -⟩ := (hi.runningAt hr hm).run_to_end
  exact ⟨n, hpos, m.length_drop_toBytes _ ▸ hle, hrun⟩

/-- Settles O30: the state the reference reading gives is one of an ended run. -/
theorem runEndsWithinBound : Obligations.RunEndsWithinBound := by
  intro s hi hr
  obtain ⟨m, hm, -, -⟩ := hi.running hr
  obtain ⟨n, hpos, hle, hrun, hended⟩ := (hi.runningAt hr hm).run_to_end
  rw [m.length_drop_toBytes, ← imageLength_of_image hm] at hle
  exact ⟨n, _, hpos, hle, hrun, hended⟩

/-- At the start of its run the whole program lies ahead. -/
theorem runningAt_startRun {program : List Byte} (hlen : program.length ≤ 65535) (s : State) :
    RunningAt (startRun program s) program :=
  ⟨inv_startRun hlen s, rfl, _, rfl, Memory.toBytes_ofBytes program⟩

/-- Settles O32: one step for the call, and then the run from its start to its end. -/
theorem interpretCallRunsToItsEnd : Obligations.InterpretCallRunsToItsEnd := by
  intro s program rest hb hc hlen
  obtain ⟨n, -, hle, hrun, hended⟩ := (runningAt_startRun hlen { s with calls := rest }).run_to_end
  exact ⟨n + 1, _, by omega, (run_succ (step_interpret_call hb hc hlen) n).trans hrun, hended, rfl⟩

end Sys2Proof.Machine
end
